-- ==== Sys2Proof/Word.lean ====
section
/-! DEFINITION. The byte of the ring's frames, and tables of a fixed number of rows. The part has no machine word:
its quantities are integers with stated ranges (00_scope.md §4.5), so counters and step numbers are `Nat`; bytes and
the fixed-width fields of a frame are bit vectors. -/

namespace Sys2Proof

/-- One byte of a frame (07_the_beat_ring.md, §7.3). -/
abbrev Byte := BitVec 8

/-- The table of `n` rows whose row `i` is `f i`. -/
def tabulate {α : Type} {n : Nat} (f : Fin n → α) : Vector α n :=
  ⟨(List.ofFn f).toArray, by simp⟩

@[simp] theorem getElem_tabulate {α : Type} {n : Nat} (f : Fin n → α) (i : Nat) (h : i < n) :
    (tabulate f)[i] = f ⟨i, h⟩ := by
  simp [tabulate]

end Sys2Proof
end

