-- ==== Sys2Proof/Syntax.lean ====
section
/-! DEFINITION. The commands: one constructor per row of spec/opcode_table.json. A command is one event at the part, whole
and indivisible (95_what_each_step_holds.md). The operands are what the event brings with it: pin levels sampled at it, the
bytes of a frame, or the contents of a good service or ENUM frame. -/

namespace Sys2Proof

/-- The order of the two things one strobe can do at the root: take a step and make an emission (R130). -/
inductive StrobeOrder where
  | stepFirst
  | emissionFirst
deriving DecidableEq, Repr

/-- The contents of a good service frame (R118), without its command code: the rows that name a command fix the code.
`reserved` is bits 7-6 of byte 2, which no part reads and which travel as they came. -/
structure ServiceFrame where
  tag : BitVec 8
  reserved : BitVec 2
  destination : BitVec 6
  table : BitVec 8
  index : BitVec 16
  field : BitVec 8
  offset : BitVec 8
  value : BitVec 32
  status : BitVec 8
  replyValue : BitVec 32
deriving DecidableEq, Repr

/-- The contents of a good ENUM frame (R118). `reserved` is bits 7-6 of byte 1. -/
structure EnumFrame where
  reserved : BitVec 2
  nextPosition : BitVec 6
  excessCount : BitVec 8
deriving DecidableEq, Repr

/-- The commands of spec/opcode_table.json, in the table's order. A frame's `bytes` are those delivered between its start
mark and the event that completes it, byte 0 first. -/
inductive Instr where
  /-- POWER_ON (R23). -/
  | powerOn
  /-- PIN_RESET (R23): a falling edge of RESET_N. -/
  | pinReset
  /-- RESET_N_RELEASE (R8): a rising edge of RESET_N. -/
  | resetNRelease
  /-- SETTLE_TIMER_EXPIRY (R8): `rootsel` is the level of the strap as sampled. -/
  | settleTimerExpiry (rootsel : Bool)
  /-- REFERENCE_LOSS (R7). -/
  | referenceLoss
  /-- REFERENCE_RETURN (R7). -/
  | referenceReturn
  /-- PACE_STROBE (R4): `watch` bit k is the level of WATCHk as sampled at the strobe. -/
  | paceStrobe (watch : BitVec 16) (order : StrobeOrder)
  /-- DEFERRED_EMISSION (R130). -/
  | deferredEmission
  /-- BEAT_WATCHDOG_EXPIRY (R17). -/
  | beatWatchdogExpiry
  /-- RETURN_TIMEOUT (R136). -/
  | returnTimeout
  /-- ENUMERATION_TIMEOUT (R127). -/
  | enumerationTimeout
  /-- BEAT_FRAME_AT_FOLLOWER (R119): the whole frame as it arrived, not yet checked. -/
  | beatFrameAtFollower (bytes : List Byte)
  /-- BEAT_FRAME_AT_ROOT (R134): the whole frame as it arrived, not yet checked. -/
  | beatFrameAtRoot (bytes : List Byte)
  /-- ENUM_FRAME_AT_FOLLOWER (R126). -/
  | enumFrameAtFollower (frame : EnumFrame)
  /-- ENUM_FRAME_AT_ROOT (R127). -/
  | enumFrameAtRoot (frame : EnumFrame)
  /-- SERVICE_FRAME_PASS (R120): `code` is the frame's command code. -/
  | serviceFramePass (code : BitVec 8) (frame : ServiceFrame)
  /-- FRAME_GAP_TIMEOUT (R176). -/
  | frameGapTimeout (bytes : List Byte)
  /-- FRAME_OVERLENGTH (R176). -/
  | frameOverlength (bytes : List Byte)
  /-- START_MARK_CUT (R177). -/
  | startMarkCut (bytes : List Byte)
  /-- FRAME_TRANSMIT_DONE (R111). -/
  | frameTransmitDone
  /-- UNASSIGNED_COMMAND (R164). -/
  | unassignedCommand (code : BitVec 8) (frame : ServiceFrame)
  /-- READ (R166). -/
  | read (frame : ServiceFrame)
  /-- WRITE (R166). -/
  | write (frame : ServiceFrame)
  /-- EVENT_LIMIT_WRITE (R78): a WRITE whose table is EVENT and whose field is the limit. -/
  | eventLimitWrite (frame : ServiceFrame)
  /-- SOURCE_WRITE (R102): a WRITE whose table is SOURCE. -/
  | sourceWrite (frame : ServiceFrame)
  /-- MASK_WRITE (R102): a WRITE whose table is MASK. -/
  | maskWrite (frame : ServiceFrame)
  /-- GATE_WRITE (R89): a WRITE whose table is GATE. -/
  | gateWrite (frame : ServiceFrame)
  /-- CURSOR (R167). -/
  | cursor (frame : ServiceFrame)
  /-- READ_NEXT (R167). -/
  | readNext (frame : ServiceFrame)
  /-- WRITE_NEXT (R167). -/
  | writeNext (frame : ServiceFrame)
  /-- SET_BITS (R168). -/
  | setBits (frame : ServiceFrame)
  /-- CLEAR_BITS (R168). -/
  | clearBits (frame : ServiceFrame)
  /-- TEST_SET (R168). -/
  | testSet (frame : ServiceFrame)
  /-- COPY_LIVE (R169). -/
  | copyLive (frame : ServiceFrame)
  /-- TAKE_NOTICE (R143). -/
  | takeNotice (frame : ServiceFrame)
  /-- RESET_PART (R171). -/
  | resetPart (frame : ServiceFrame)
  /-- RUN (R145). -/
  | run (frame : ServiceFrame)
  /-- RUN_FOR (R146). -/
  | runFor (frame : ServiceFrame)
  /-- PAUSE (R147). -/
  | pause (frame : ServiceFrame)
  /-- CLEAR_BREAK (R147). -/
  | clearBreak (frame : ServiceFrame)
  /-- ORIGIN (R148). -/
  | origin (frame : ServiceFrame)
  /-- SWAP (R153). -/
  | swap (frame : ServiceFrame)
  /-- ENUMERATE (R125). -/
  | enumerate (frame : ServiceFrame)
  /-- START_MARK (R176). -/
  | startMark
deriving DecidableEq, Repr

end Sys2Proof
end

