-- ==== Sys2Proof/Config.lean ====
section
/-! DEFINITION. The free values: what the board, the ring's bytes and the two oscillators do at a tick of the model's clock, and a
reply value that the spec does not state. None has a body, so nothing can be proved about its value; each is applied to the model's own tick
counter (`Machine.Oscillators.ticks`). See notes/assumptions/2.md and 30.md. -/

namespace Sys2Proof

/-- Free value: whether tick `n` is a period of REFCLK (R3) or a microsecond of the monitor oscillator (R7). The two
clocks run independently (00_scope.md §4.4), so the spec gives no order between their ticks. -/
opaque Config.tickIsReferencePeriod : Nat → Bool

/-- Free value: the levels of WATCH0 to WATCH15 (bit k is WATCHk) at a strobe that tick `n` issues (R5). -/
opaque Config.watchLines : Nat → BitVec 16

/-- Free value: which of a root strobe's step and emission is taken first, at a strobe that tick `n` issues; R130 allows
either order. `true` is the step. -/
opaque Config.stepBeforeEmission : Nat → Bool

/-- Free value: the bytes that arrive at ring-in in the microsecond that tick `n` passes, in the order in which they come (R176). -/
opaque Config.bytesArrive : Nat → List Byte

/-- Free value: the reply value that a part writes at tick count `n` into a broadcast which it takes with reply value FFFFFFFFh and a
status other than NO_ANSWER. R165 raises the value by one, and states neither a wrap nor a ceiling. See notes/assumptions/30.md. -/
opaque Config.replyPastRange : Nat → BitVec 32

/-- Free value: the level of the ROOTSEL strap when the settle timer reaches 0 at tick `n` (R9). -/
opaque Config.rootsel : Nat → Bool

end Sys2Proof
end

