-- ==== Sys2Proof/Machine/State.lean ====
section
/-! DEFINITION. The state of one ZQ-24 as plain data, block by block as 00_scope.md §2 lists them, the reasons a step can
stop, and the state right after power-on. Counts, step numbers and indices of varying range are `Nat` (00_scope.md §4.5: all
quantities are integers with stated ranges); an index into a table of the part is a `Fin`. -/

namespace Sys2Proof.Machine

/-! ### Step sequencer (R1) -/

/-- The eight run states (R1). -/
inductive RunState where
  | cold | idle | ready | run | halting | halted | broken | stranded
deriving DecidableEq, Repr

/-- The role fixed by ROOTSEL on leaving COLD (R9). -/
inductive Role where
  | follower | root
deriving DecidableEq, Repr

/-- The weight of a halt (R1). -/
inductive HaltKind where
  | pause | brk
deriving DecidableEq, Repr

/-- The kind of a request (R95), in rising weight. -/
inductive Kind where
  | mark | pause | brk
deriving DecidableEq, Repr

/-- The last hardware reset (R1). -/
inductive ResetCause where
  | power | pin
deriving DecidableEq, Repr

/-- The beat watchdog (R17): while it runs, the monitor time of the last restart, from which its time is measured, and the beat
timeout that was live at that restart (a timeout changed by an activation applies from the next restart). -/
inductive Watchdog where
  | stopped
  | running (since limit : Nat)
  | expired
deriving DecidableEq, Repr

/-- The step sequencer's state (R1). `resetN` is the level of the RESET_N pin, which R8 reads. -/
structure Sequencer where
  runState : RunState
  role : Role
  /-- The step counter C. -/
  step : Nat
  /-- The grant G. -/
  grant : Nat
  /-- The halt step F, or absent. -/
  haltStep : Option Nat
  haltKind : HaltKind
  /-- The number of the origin last performed; absent means unsynchronised. -/
  originNumber : Option Nat
  resetCause : ResetCause
  referencePresent : Bool
  referenceLost : Bool
  ringSilent : Bool
  underrunCount : Nat
  silenceCount : Nat
  referenceLossCount : Nat
  strobeCount : Nat
  paceInForce : Nat
  /-- Microseconds left before COLD is left. -/
  settleTimer : Nat
  watchdog : Watchdog
  resetN : Bool
deriving DecidableEq, Repr

/-! ### Track engine (R24, R25) -/

/-- When a track advances (R28). -/
inductive TrackMode where
  | off | free | follow
deriving DecidableEq, Repr

/-- The signal that may hold a track (R24). -/
inductive GateSource where
  | none
  | flag (g : Fin 8)
  | cell (c : Fin 16)
deriving DecidableEq, Repr

/-- Which value of the gate source opens the gate (R37). -/
inductive GatePolarity where
  | openHigh | openLow
deriving DecidableEq, Repr

/-- How a closed gate acts (R38, R39). -/
inductive GateStyle where
  | clean | hard
deriving DecidableEq, Repr

/-- A level's change in the last step taken: a track's last-step edge (R25) or a cell's last-step change (R59). -/
inductive Change where
  | noChange | rise | fall
deriving DecidableEq, Repr

/-- A track record (R24). -/
structure TrackRecord where
  mode : TrackMode
  parent : Fin 24
  increment : Nat
  /-- The high span H. -/
  high : Nat
  /-- The low span Lw. -/
  low : Nat
  initialLevel : Bool
  /-- The phase offset φ0. -/
  phaseOffset : Nat
  gateSource : GateSource
  gatePolarity : GatePolarity
  gateStyle : GateStyle
  restartOnActivation : Bool
deriving DecidableEq, Repr

/-- The running state of a track (R25). -/
structure TrackRun where
  /-- The accumulator φ. -/
  phase : Nat
  level : Bool
  /-- The edge count E, modulo 2^32. -/
  edges : Nat
  lastEdge : Change
  closePending : Bool
deriving DecidableEq, Repr

/-! ### Lane map (R48, R49) -/

/-- The value a lane records (R51). -/
inductive LaneSource where
  | track (t : Fin 24)
  | parity
  | low
deriving DecidableEq, Repr

/-- A lane record (R48). -/
structure LaneRecord where
  source : LaneSource
  invert : Bool
  retard : Fin 16
deriving DecidableEq, Repr

/-- A lane's history, entry 0 the newest, and its output level (R49). -/
structure LaneRun where
  history : Vector Bool 16
  output : Bool
deriving DecidableEq, Repr

/-! ### Condition cells (R58, R59) -/

/-- The six timer modes (R64 to R69). -/
inductive CellMode where
  | plain | filter | stretch | count | settle | rate
deriving DecidableEq, Repr

/-- Which changes of the truth-table value qualify (R63). -/
inductive CellEdge where
  | rise | fall | both
deriving DecidableEq, Repr

/-- A cell configuration (R58). `truth[i]` is truth-table entry i. -/
structure CellConfig where
  selector0 : Fin 64
  selector1 : Fin 64
  selector2 : Fin 64
  truth : Vector Bool 8
  mode : CellMode
  edge : CellEdge
  /-- The timer length N. -/
  length : Nat
  initialOutput : Bool
deriving DecidableEq, Repr

/-- The running state of a cell (R59). `value` is the truth-table value v. -/
structure CellRun where
  value : Bool
  timer : Nat
  output : Bool
  lastChange : Change
deriving DecidableEq, Repr

/-! ### Event table (R77, R78, R87, R90) -/

/-- What an entry does with its base (R77). -/
inductive EventType where
  | compare | capture
deriving DecidableEq, Repr

/-- What an entry compares or captures (R77). -/
inductive EventBase where
  | step | edges
deriving DecidableEq, Repr

/-- The direction of output change that a CAPTURE entry matches (R77). -/
inductive CaptureEdge where
  | rise | fall
deriving DecidableEq, Repr

/-- The operation a match offers to a gate flag (R77). -/
inductive GateOp where
  | none | set | clear | toggle
deriving DecidableEq, Repr

/-- Which matches raise the entry's request (R86). -/
inductive RequestWhen where
  | each | last
deriving DecidableEq, Repr

/-- An event entry: its configuration (R77), then its running state (R78). -/
structure EventEntry where
  enabled : Bool
  type : EventType
  base : EventBase
  baseTrack : Fin 24
  value : Nat
  period : Nat
  captureCell : Fin 16
  captureEdge : CaptureEdge
  keepFirst : Bool
  limit : Nat
  gateOp : GateOp
  gateFlag : Fin 8
  /-- The marker a match drives; absent is NONE. -/
  marker : Option (Fin 8)
  /-- The request kind; absent is NONE. -/
  requestKind : Option Kind
  requestWhen : RequestWhen
  remaining : Nat
  hits : Nat
  done : Bool
deriving DecidableEq, Repr

/-- The event table with the eight gate flags (R87) and the eight marker levels (R90). -/
structure EventTable where
  entries : Vector EventEntry 32
  gates : Vector Bool 8
  markers : Vector Bool 8
deriving DecidableEq, Repr

/-! ### Request unit (R95 to R108) -/

/-- The written settings of a source (R97). -/
structure SourceSetting where
  enable : Bool
  level : Fin 4
deriving DecidableEq, Repr

/-- A pending request (R95); its source code is its place in the pending set, its ring position is not yet filled. -/
structure PendingRequest where
  kind : Kind
  level : Nat
  causeStep : Nat
  merged : Nat
deriving DecidableEq, Repr

/-- A request record placed in a slot or taken by the root (R95, R117). -/
structure RequestRecord where
  position : Nat
  source : Nat
  kind : Kind
  level : Nat
  causeStep : Nat
  merged : Nat
deriving DecidableEq, Repr

/-- The request unit: source table (R97; the kinds of sources 0 to 31 are the event entries' and those of 33 and 35 are
fixed), mask threshold M (R98), pending set (R101) and counts (R108). -/
structure RequestUnit where
  settings : Vector SourceSetting 36
  /-- The kind of source 32; absent is NONE. -/
  underrunKind : Option Kind
  /-- The kind of source 34; absent is NONE. -/
  clampKind : Option Kind
  /-- The mask threshold M. -/
  mask : Fin 4
  waiting : Vector (Option PendingRequest) 36
  droppedCount : Nat
  mergedCount : Nat
  cancelCount : Nat
  placedCount : Nat
deriving DecidableEq, Repr

/-! ### Ring ports and frame handler (R110, R111, R124, R128) -/

/-- What ring-in is receiving (R110, R176): nothing; a frame whose start mark found the port ON; a frame that is not received,
because the port was OFF at its start mark or the part entered COLD during it; or what follows a frame that was completed before
its end mark, which belongs to no frame. -/
inductive Reception where
  | between | receiving | missed | ended
deriving DecidableEq, Repr

/-- The frame handler. `sending` is the frame ring-out is sending and `queue` holds the frames waiting, oldest first. -/
structure FrameHandler where
  ringIn : Bool
  ringOut : Bool
  reception : Reception
  /-- Microseconds since the last byte of the frame in reception (R176). -/
  gapTimer : Nat
  /-- The bytes that time has delivered of the frame in reception, oldest first (R176). With no frame in reception they are not read. -/
  arrived : List Byte
  /-- The ring position, or absent. -/
  position : Option (Fin 63)
  sending : Option (List Byte)
  queue : List (List Byte)
  checkErrors : Nat
  unknowns : Nat
  outputDrops : Nat
  enumerationOutstanding : Bool
  /-- Microseconds since the outstanding ENUM frame was emitted. -/
  enumerationTimer : Nat
  ringSize : Option Nat
  excessCount : Nat
  enumerationLost : Bool
deriving DecidableEq, Repr

/-! ### Root timebase (R129, R133, R142, R143) -/

/-- An entry of the outstanding beat list (R133). -/
structure OutstandingBeat where
  sequence : Nat
  grant : Nat
  rootStep : Nat
  emissionTime : Nat
  haltCurrent : Bool
  originCurrent : Bool
  numberingCurrent : Bool
deriving DecidableEq, Repr

/-- A request record as the root keeps it (R138): with its arrival root step and late flag. -/
structure LoggedRequest where
  request : RequestRecord
  arrivalStep : Nat
  late : Bool
deriving DecidableEq, Repr

/-- The halt record (R142). -/
structure HaltRecord where
  isOpen : Bool
  kind : HaltKind
  haltStep : Option Nat
  decisionStep : Option Nat
  entries : List LoggedRequest
  overflowCount : Nat
deriving DecidableEq, Repr

/-- The root timebase (R129). -/
structure RootTimebase where
  /-- G_root. -/
  rootGrant : Nat
  /-- The target T, or absent. -/
  target : Option Nat
  nextSequence : Nat
  emissionCount : Nat
  emissionDue : Bool
  /-- The outstanding beat list, oldest first. -/
  outstanding : List OutstandingBeat
  haltRecord : HaltRecord
  /-- The notice queue, oldest first. -/
  notices : List LoggedRequest
  lastNotice : Option LoggedRequest
  announcedOrigin : Option Nat
  originOutstanding : Bool
  ringUnsynchronised : Bool
  leadShort : Bool
  largestRoundTrip : Nat
  lostCount : Nat
  foreignCount : Nat
  deferredCount : Nat
  noticeDropCount : Nat
deriving DecidableEq, Repr

/-! ### Plan store (R150, R151) -/

/-- The plan header (R150). -/
structure Header where
  /-- The pace divisor P. -/
  pace : Nat
  /-- The beat spacing K. -/
  spacing : Nat
  /-- The lead Ld. -/
  lead : Nat
  beatTimeout : Nat
  returnTimeout : Nat
deriving DecidableEq, Repr

/-- One bank of the plan (R150). -/
structure Plan where
  header : Header
  tracks : Vector TrackRecord 24
  lanes : Vector LaneRecord 32
  cells : Vector CellConfig 16
deriving DecidableEq, Repr

/-- A stage number with an activation step (R151). -/
structure Activation where
  stage : Nat
  step : Nat
deriving DecidableEq, Repr

/-- The plan store (R151). -/
structure PlanStore where
  live : Plan
  staged : Plan
  liveStage : Nat
  pendingActivation : Option Activation
  clampsAtLast : Nat
  lateCount : Nat
  /-- The activation the root has announced and not yet seen completed. -/
  announced : Option Activation
  nextStage : Nat
deriving DecidableEq, Repr

/-! ### Service engine (R162) and the clocks (00_scope.md §4.4) -/

/-- The sixteen tables (R164). -/
inductive TableName where
  | trackLive | trackStaged | laneLive | laneStaged | cellLive | cellStaged | headerLive | headerStaged
  | event | source | gate | mask | part | root | haltRecord | notice
deriving DecidableEq, Repr

/-- The cursor (R162). -/
structure Cursor where
  table : TableName
  index : Nat
deriving DecidableEq, Repr

/-- Time as the part counts it. `time` is the monitor oscillator's count of microseconds (R17, R133, R136) and `sinceEdge` the
microseconds since the last REFCLK edge (R7). `ticks` is the MODEL's own counter, to which the free values of `Config` are
applied. -/
structure Oscillators where
  time : Nat
  sinceEdge : Nat
  ticks : Nat
deriving DecidableEq, Repr

/-- The state of one part. `pending` is the queue of commands that are waiting, first in, first out. -/
structure State where
  seq : Sequencer
  tracks : Vector TrackRun 24
  lanes : Vector LaneRun 32
  cells : Vector CellRun 16
  events : EventTable
  requests : RequestUnit
  handler : FrameHandler
  root : RootTimebase
  plan : PlanStore
  cursor : Cursor
  clock : Oscillators
  pending : List Instr
deriving DecidableEq, Repr

/-- Why the machine stops with a fault: never. The spec gives every event an effect and describes no fault of the part, so
no constructor is needed (safe: a run is never cut short). -/
inductive Fault
deriving DecidableEq, Repr

/-- Why a command has no meaning. -/
inductive Refusal where
  /-- Raised by `exec` for a row that has no meaning yet; none is left (safe: the run stops). -/
  | notModelled (mnemonic : String)
deriving DecidableEq, Repr

/-! ### Reset values -/

/-- The default header (R150). -/
def Header.default : Header := { pace := 100, spacing := 4, lead := 16, beatTimeout := 1000, returnTimeout := 2000 }

/-- The default track record (R47). -/
def TrackRecord.default : TrackRecord :=
  { mode := .off, parent := 0, increment := 1, high := 1, low := 1, initialLevel := false, phaseOffset := 0,
    gateSource := .none, gatePolarity := .openHigh, gateStyle := .hard, restartOnActivation := true }

/-- A track's running state after power-on (R47). -/
def TrackRun.default : TrackRun :=
  { phase := 0, level := false, edges := 0, lastEdge := .noChange, closePending := false }

/-- The default lane record (R57). -/
def LaneRecord.default : LaneRecord := { source := .low, invert := false, retard := 0 }

/-- A lane's history and output after power-on (R56). -/
def LaneRun.default : LaneRun := { history := Vector.replicate 16 false, output := false }

/-- The default cell configuration (R76). -/
def CellConfig.default : CellConfig :=
  { selector0 := 0, selector1 := 0, selector2 := 0, truth := Vector.replicate 8 false, mode := .plain, edge := .rise,
    length := 1, initialOutput := false }

/-- A cell's running state after power-on (R76). -/
def CellRun.default : CellRun := { value := false, timer := 0, output := false, lastChange := .noChange }

/-- The default plan (R47, R57, R76, R150). -/
def Plan.default : Plan :=
  { header := Header.default, tracks := Vector.replicate 24 TrackRecord.default,
    lanes := Vector.replicate 32 LaneRecord.default, cells := Vector.replicate 16 CellConfig.default }

/-- The default event entry (R94). -/
def EventEntry.default : EventEntry :=
  { enabled := false, type := .compare, base := .step, baseTrack := 0, value := 0, period := 0, captureCell := 0,
    captureEdge := .rise, keepFirst := false, limit := 0, gateOp := .none, gateFlag := 0, marker := none,
    requestKind := none, requestWhen := .each, remaining := 0, hits := 0, done := false }

/-- The event table after power-on (R94). -/
def EventTable.default : EventTable :=
  { entries := Vector.replicate 32 EventEntry.default, gates := Vector.replicate 8 false,
    markers := Vector.replicate 8 false }

/-- The source settings after power-on (R109): enabled at level 1, but for sources 33 and 35, fixed at level 3. -/
def SourceSetting.default (source : Fin 36) : SourceSetting :=
  { enable := true, level := if source = 33 ∨ source = 35 then 3 else 1 }

/-- The request unit after power-on (R109). -/
def RequestUnit.default : RequestUnit :=
  { settings := tabulate SourceSetting.default, underrunKind := some .mark, clampKind := some .mark, mask := 0,
    waiting := Vector.replicate 36 none, droppedCount := 0, mergedCount := 0, cancelCount := 0, placedCount := 0 }

/-- The frame handler after power-on (R128). -/
def FrameHandler.default : FrameHandler :=
  { ringIn := false, ringOut := false, reception := .between, gapTimer := 0, arrived := [], position := none, sending := none,
    queue := [], checkErrors := 0, unknowns := 0, outputDrops := 0, enumerationOutstanding := false, enumerationTimer := 0,
    ringSize := none, excessCount := 0, enumerationLost := false }

/-- The halt record after power-on (R149): empty and closed. R149 gives no kind; PAUSE is the model's (log entry 3). -/
def HaltRecord.default : HaltRecord :=
  { isOpen := false, kind := .pause, haltStep := none, decisionStep := none, entries := [], overflowCount := 0 }

/-- The root timebase after power-on (R149). -/
def RootTimebase.default : RootTimebase :=
  { rootGrant := 0, target := none, nextSequence := 0, emissionCount := 0, emissionDue := false, outstanding := [],
    haltRecord := HaltRecord.default, notices := [], lastNotice := none, announcedOrigin := none,
    originOutstanding := false, ringUnsynchronised := false, leadShort := false, largestRoundTrip := 0, lostCount := 0,
    foreignCount := 0, deferredCount := 0, noticeDropCount := 0 }

/-- The plan store after power-on (R161). -/
def PlanStore.default : PlanStore :=
  { live := Plan.default, staged := Plan.default, liveStage := 0, pendingActivation := none, clampsAtLast := 0,
    lateCount := 0, announced := none, nextStage := 0 }

/-- The sequencer after power-on (R23). The role is the model's choice until COLD is left (R9), and so is the level of
RESET_N (log entry 3). -/
def Sequencer.default : Sequencer :=
  { runState := .cold, role := .follower, step := 0, grant := 0, haltStep := none, haltKind := .pause,
    originNumber := none, resetCause := .power, referencePresent := false, referenceLost := false, ringSilent := false,
    underrunCount := 0, silenceCount := 0, referenceLossCount := 0, strobeCount := 0, paceInForce := 100,
    settleTimer := 2048, watchdog := .stopped, resetN := true }

/-- The clocks after power-on: no time counted yet (log entry 3). -/
def Oscillators.default : Oscillators := { time := 0, sinceEdge := 0, ticks := 0 }

/-- The part right after power-on: R23 (sequencer), R47 (tracks), R56 (lanes), R76 (cells), R94 (events), R109 (requests),
R128 (frame handler), R149 (root timebase), R161 (plan store), R162 (cursor). -/
def State.reset : State :=
  { seq := Sequencer.default
    tracks := Vector.replicate 24 TrackRun.default
    lanes := Vector.replicate 32 LaneRun.default
    cells := Vector.replicate 16 CellRun.default
    events := EventTable.default
    requests := RequestUnit.default
    handler := FrameHandler.default
    root := RootTimebase.default
    plan := PlanStore.default
    cursor := { table := .trackStaged, index := 0 }
    clock := Oscillators.default
    pending := [] }

/-! ### Updates, one per field -/

/-- Replace the sequencer's state. -/
def State.setSeq (s : State) (x : Sequencer) : State := { s with seq := x }
/-- Replace the tracks' running state. -/
def State.setTracks (s : State) (x : Vector TrackRun 24) : State := { s with tracks := x }
/-- Replace the lanes' histories and outputs. -/
def State.setLanes (s : State) (x : Vector LaneRun 32) : State := { s with lanes := x }
/-- Replace the cells' running state. -/
def State.setCells (s : State) (x : Vector CellRun 16) : State := { s with cells := x }
/-- Replace the event table. -/
def State.setEvents (s : State) (x : EventTable) : State := { s with events := x }
/-- Replace the request unit's state. -/
def State.setRequests (s : State) (x : RequestUnit) : State := { s with requests := x }
/-- Replace the frame handler's state. -/
def State.setHandler (s : State) (x : FrameHandler) : State := { s with handler := x }
/-- Replace the root timebase's state. -/
def State.setRoot (s : State) (x : RootTimebase) : State := { s with root := x }
/-- Replace the plan store's state. -/
def State.setPlan (s : State) (x : PlanStore) : State := { s with plan := x }
/-- Replace the cursor. -/
def State.setCursor (s : State) (x : Cursor) : State := { s with cursor := x }
/-- Replace the clocks. -/
def State.setClock (s : State) (x : Oscillators) : State := { s with clock := x }
/-- Replace the queue of waiting commands. -/
def State.setPending (s : State) (x : List Instr) : State := { s with pending := x }

end Sys2Proof.Machine
end

