-- ==== Sys2Proof/Machine/Ops.lean ====
section
/-! DEFINITION. Operations that several blocks share: saturating counts, bit words as tables of levels, the output queue,
ring-in's reception, the raising of a request, the watchdog and run-state helpers. -/

namespace Sys2Proof.Machine

/-! ### Counts and values (00_scope.md §4.5) -/

/-- The largest step number, 2^48−1 (00_scope.md §4.1). -/
def maxStep : Nat := 2 ^ 48 - 1

/-- A 16-bit count raised by `by`, stopping at 65535. -/
def raiseCount (count by_ : Nat) : Nat := min (count + by_) 65535

/-- The heavier of two kinds (R100). -/
def Kind.heavier : Kind → Kind → Kind
  | .brk, _ | _, .brk => .brk
  | .pause, _ | _, .pause => .pause
  | .mark, .mark => .mark

/-- The kind of the halt that a record of this kind decides (R139). A MARK decides none. -/
def Kind.toHalt : Kind → HaltKind
  | .brk => .brk
  | .pause | .mark => .pause

/-- The change from one level to the next (R29, R62). -/
def Change.between (old new : Bool) : Change :=
  match old, new with
  | false, true => .rise
  | true, false => .fall
  | false, false | true, true => .noChange

/-! ### Run states -/

/-- The numbered states: a part that holds a ring position (R103) is in READY, RUN, HALTING, HALTED, BROKEN or STRANDED. -/
def RunState.numbered : RunState → Bool
  | .cold | .idle => false
  | .ready | .run | .halting | .halted | .broken | .stranded => true

/-- The states in which a synchronised follower reads the grant, halt and mode fields of a beat frame (R10). -/
def RunState.readsGrant : RunState → Bool
  | .cold | .idle | .stranded => false
  | .ready | .run | .halting | .halted | .broken => true

/-- The state a halt of this kind ends in (R14, R15, R141). -/
def HaltKind.endState : HaltKind → RunState
  | .pause => .halted
  | .brk => .broken

/-- A follower is synchronised while its origin number is present (R1). -/
def Sequencer.synchronised (q : Sequencer) : Bool := q.originNumber.isSome

/-- The unsync value of R122: IDLE, STRANDED, or a numbered state with the origin number absent. -/
def Sequencer.unsync (q : Sequencer) : Bool :=
  q.runState == .idle || q.runState == .stranded || (q.runState.numbered && !q.synchronised)

/-- Start or restart the beat watchdog at a monitor time, against the live beat timeout (R17). -/
def Sequencer.restartWatchdog (q : Sequencer) (now beatTimeout : Nat) : Sequencer :=
  { q with watchdog := .running now beatTimeout }

/-- The beat watchdog runs at a follower only (R16, R17): its restart by an origin or an in-band reset. -/
def Sequencer.restartFollowerWatchdog (q : Sequencer) (now beatTimeout : Nat) : Sequencer :=
  if q.role = .follower then q.restartWatchdog now beatTimeout else q

/-- The watchdog's time has reached the beat timeout (R17). -/
def Watchdog.isDue (w : Watchdog) (now : Nat) : Bool :=
  match w with
  | .running since limit => decide (limit ≤ now - since)
  | .stopped | .expired => false

/-- The full length of the settle timer (R8). -/
def ResetCause.settleTime : ResetCause → Nat
  | .power => 2048
  | .pin => 128

/-- Close the halt record, keeping its header and entries (R142). -/
def RootTimebase.closeRecord (r : RootTimebase) : RootTimebase :=
  { r with haltRecord := { r.haltRecord with isOpen := false } }

/-- Enter STRANDED (R18): C, G, F and the kind stay; the root closes its halt record (R142). -/
def State.enterStranded (s : State) : State :=
  let t := s.setSeq { s.seq with runState := .stranded }
  if s.seq.role = .root then t.setRoot t.root.closeRecord else t

/-! ### Request unit -/

/-- A source qualifies (R98): its level is 3, or it is enabled and its level is at least M. -/
def RequestUnit.qualifies (u : RequestUnit) (source : Fin 36) : Bool :=
  let setting := u.settings[source]
  setting.level == 3 || (setting.enable && u.mask ≤ setting.level)

/-- Fold a further raise into the record already pending (R100): the cause step is kept, the kind escalates, and the level
is the source's current one. -/
def PendingRequest.merge (p : PendingRequest) (kind : Kind) (level : Nat) : PendingRequest :=
  { p with kind := p.kind.heavier kind, level := level, merged := min (p.merged + 1) 15 }

/-- A raise at the request unit (R99): kind NONE does nothing (R96); a raise that does not qualify is dropped and counted; else
a record is added, or the raise is merged into the one pending. -/
def RequestUnit.raise (u : RequestUnit) (source : Fin 36) (kind : Option Kind) (causeStep : Nat) : RequestUnit :=
  match kind with
  | none => u
  | some k =>
    if u.qualifies source then
      let level := (u.settings[source]).level.val
      match u.waiting[source] with
      | none => { u with waiting := u.waiting.set source (some { kind := k, level, causeStep, merged := 0 }) }
      | some p =>
        { u with waiting := u.waiting.set source (some (p.merge k level)), mergedCount := raiseCount u.mergedCount 1 }
    else { u with droppedCount := raiseCount u.droppedCount 1 }

/-- A raise as an event at the part. -/
def State.raise (s : State) (source : Fin 36) (kind : Option Kind) (causeStep : Nat) : State :=
  s.setRequests (s.requests.raise source kind causeStep)

/-! ### Ring-out (R111) -/

/-- Hand a frame to ring-out: it starts at once when ring-out is idle and nothing waits; else it waits behind at most three
others; a frame handed to a queue of four is discarded and counted. -/
def FrameHandler.hand (h : FrameHandler) (frame : List Byte) : FrameHandler :=
  if h.sending = none ∧ h.queue = [] then { h with sending := some frame }
  else if h.queue.length < 4 then { h with queue := h.queue ++ [frame] }
  else { h with outputDrops := raiseCount h.outputDrops 1 }

/-- Hand a frame to the part's ring-out. -/
def State.hand (s : State) (frame : List Byte) : State := s.setHandler (s.handler.hand frame)

/-- Ring-out has sent its frame in full and starts the oldest one waiting (R111, R178). -/
def FrameHandler.transmitDone (h : FrameHandler) : FrameHandler :=
  match h.queue with
  | [] => { h with sending := none }
  | frame :: rest => { h with sending := some frame, queue := rest }

/-! ### Ring-in (R110, R176) -/

/-- A frame is in reception (R176). -/
def FrameHandler.inReception (h : FrameHandler) : Bool := h.ringIn && h.reception == .receiving

/-- Whether a frame whose end mark comes now is received: it is in reception, or its row brings its start mark too (log entry 6). -/
def FrameHandler.receives (h : FrameHandler) : Bool :=
  h.ringIn && (h.reception == .between || h.reception == .receiving)

/-- Set what ring-in is receiving. -/
def State.setReception (s : State) (r : Reception) : State := s.setHandler { s.handler with reception := r }

/-- A start mark with no frame in reception (R110, R176): reception begins if the port is ON, and the frame is not received
if it is OFF. No byte of it has come, and until the first one the gap is measured from the mark (log entry 26). -/
def State.beginReception (s : State) : State :=
  s.setHandler
    { s.handler with reception := if s.handler.ringIn then .receiving else .missed, gapTimer := 0, arrived := [] }

/-- An end mark at ring-in, with what the part does when the frame has been received. One that ends a frame not received, or that
follows a frame completed early (R176), is without effect. -/
def State.onArrival (s : State) (act : State → State) : State :=
  if s.handler.receives then act (s.setReception .between) else s.setReception .between

/-- A frame being received when the part enters COLD is abandoned (R110), so that the rest of it is not received. -/
def Reception.abandoned : Reception → Reception
  | .between => .between
  | .receiving | .missed => .missed
  | .ended => .ended

end Sys2Proof.Machine
end

