-- ==== Sys2Proof/Machine/Cells.lean ====
section
/-! DEFINITION. The condition cells: inputs and truth table (R60, R61), qualifying changes (R63), the six timer modes (R64 to
R69), one step (R62), restart (R72) and what an activation restarts (R74). -/

namespace Sys2Proof.Machine

/-- What a selector reads, through four readers: watch lines, track levels, cell outputs, gate flags (R60). -/
def selected (watch : Fin 16 → Bool) (track : Fin 24 → Bool) (cell : Fin 16 → Bool) (gate : Fin 8 → Bool)
    (selector : Fin 64) : Bool :=
  if h : selector.val < 16 then watch ⟨selector.val, h⟩
  else if h : selector.val < 40 then track ⟨selector.val - 16, by omega⟩
  else if h : selector.val < 56 then cell ⟨selector.val - 40, by omega⟩
  else gate ⟨selector.val - 56, by omega⟩

/-- The truth-table value for the inputs that `read` gives (R61): entry 4 × in2 + 2 × in1 + in0. -/
def CellConfig.truthValue (c : CellConfig) (read : Fin 64 → Bool) : Bool :=
  c.truth[4 * (read c.selector2).toNat + 2 * (read c.selector1).toNat + (read c.selector0).toNat]'(by
    cases read c.selector0 <;> cases read c.selector1 <;> cases read c.selector2 <;> decide)

/-- A change of the truth-table value qualifies (R63). -/
def CellEdge.qualifies (edge : CellEdge) (old new : Bool) : Bool :=
  match edge with
  | .rise => !old && new
  | .fall => old && !new
  | .both => old != new

/-- A cell's timer and output after a step, from those before it and the old and new truth-table values (R64 to R69). -/
def CellConfig.timed (c : CellConfig) (timer : Nat) (output old new : Bool) : Nat × Bool :=
  let qualifying := c.edge.qualifies old new
  match c.mode with
  | .plain => (0, new)
  | .filter =>
    if new = output then (0, output)
    else if timer + 1 < c.length then (timer + 1, output)
    else (0, new)
  | .stretch =>
    if output then if timer < c.length then (timer + 1, true) else (0, false)
    else if qualifying then (1, true)
    else (0, false)
  | .count =>
    if qualifying then if timer + 1 < c.length then (timer + 1, false) else (0, true)
    else (timer, false)
  | .settle =>
    if qualifying then (c.length, false)
    else if old ≠ new then (0, false)
    else if timer = 0 then (0, false)
    else if timer = 1 then (0, true)
    else (timer - 1, false)
  | .rate =>
    if qualifying then (c.length, decide (0 < timer))
    else if 1 < timer then (timer - 1, output)
    else (0, false)

/-- One cell in one step (R62): the new value, the mode, the last-step change. -/
def CellRun.stepped (t : CellRun) (c : CellConfig) (read : Fin 64 → Bool) : CellRun :=
  let new := c.truthValue read
  let after := c.timed t.timer t.output t.value new
  { value := new, timer := after.1, output := after.2, lastChange := Change.between t.output after.2 }

/-- All 16 cells in one step, each from the state as the step began (R60, R62). -/
def stepCells (configs : Vector CellConfig 16) (cells : Vector CellRun 16) (tracks : Vector TrackRun 24)
    (flags : Vector Bool 8) (watch : BitVec 16) : Vector CellRun 16 :=
  tabulate fun i =>
    (cells[i]).stepped configs[i]
      (selected (fun k => watch.getLsbD k) (fun t => (tracks[t]).level) (fun c => (cells[c]).output) (fun g => flags[g]))

/-- The running state a restart sets, given the restart inputs (R72). -/
def CellConfig.restarted (c : CellConfig) (read : Fin 64 → Bool) : CellRun :=
  { value := c.truthValue read, timer := 0, output := c.initialOutput, lastChange := .noChange }

/-- The restart inputs (R72): watch lines 0, the tracks as the event leaves them, the initial output of a cell the event
restarts and the current one of another, and the gate flags as given. -/
def restartInputs (configs : Vector CellConfig 16) (cells : Vector CellRun 16) (restarts : Fin 16 → Bool)
    (tracks : Vector TrackRun 24) (flags : Vector Bool 8) : Fin 64 → Bool :=
  selected (fun _ => false) (fun t => (tracks[t]).level)
    (fun c => if restarts c then (configs[c]).initialOutput else (cells[c]).output) (fun g => flags[g])

/-- The cells of `restarts` restarted together, the others kept (R73). -/
def restartCells (configs : Vector CellConfig 16) (cells : Vector CellRun 16) (restarts : Fin 16 → Bool)
    (tracks : Vector TrackRun 24) (flags : Vector Bool 8) : Vector CellRun 16 :=
  tabulate fun i =>
    if restarts i then (configs[i]).restarted (restartInputs configs cells restarts tracks flags) else cells[i]

/-- The cells at an activation (R74): those whose configuration changed restart. -/
def activateCells (old new : Vector CellConfig 16) (cells : Vector CellRun 16) (tracks : Vector TrackRun 24)
    (flags : Vector Bool 8) : Vector CellRun 16 :=
  restartCells new cells (fun i => decide (old[i] ≠ new[i])) tracks flags

end Sys2Proof.Machine
end

