-- ==== Sys2Proof/Machine/Flags.lean ====
section
/-! DEFINITION. Bit words: the gate flags (R87 to R89), the marker levels (R90), the truth-table word (R173), the lane history
word (R173) and the flag words of PART and ROOT (R175). A word's bit k is row k of a table of levels. -/

namespace Sys2Proof.Machine

/-- The value of a list of levels, the first the least significant bit. -/
def wordOfList : List Bool → Nat
  | [] => 0
  | b :: rest => b.toNat + 2 * wordOfList rest

/-- The word whose bit k is level k. -/
def wordOf {n : Nat} (levels : Vector Bool n) : Nat := wordOfList levels.toList

/-- The levels spelled by a word: level k is bit k. -/
def levelsOf (n : Nat) (word : Nat) : Vector Bool n := tabulate fun k => word.testBit k

/-- SET_BITS (R89, R168): each bit that is 1 in the word becomes 1. -/
def setBitsOf {n : Nat} (levels : Vector Bool n) (word : Nat) : Vector Bool n :=
  tabulate fun k => levels[k] || word.testBit k

/-- CLEAR_BITS (R89, R168): each bit that is 1 in the word becomes 0. -/
def clearBitsOf {n : Nat} (levels : Vector Bool n) (word : Nat) : Vector Bool n :=
  tabulate fun k => levels[k] && !word.testBit k

/-- What a gate op gives a flag whose value was `old` when the step began (R88). -/
def GateOp.apply (op : GateOp) (old : Bool) : Bool :=
  match op with
  | .none => old
  | .set => true
  | .clear => false
  | .toggle => !old

/-- The offers of matching entries to one flag, in ascending entry index: the last decides (R88). -/
def settleFlag (old : Bool) (offers : List GateOp) : Bool :=
  match offers.getLast? with
  | none => old
  | some op => op.apply old

/-- The part's lane pins (R55): low in COLD, else the output levels. -/
def State.lanePin (s : State) (lane : Fin 32) : Bool :=
  s.seq.runState != .cold && (s.lanes[lane]).output

/-- The part's marker pins (R90): low in COLD, else the marker levels. -/
def State.markerPin (s : State) (marker : Fin 8) : Bool :=
  s.seq.runState != .cold && s.events.markers[marker]

/-- PART field 13 (R175): reference present, reference lost, ring silent, ring-in ON, ring-out ON. -/
def State.partFlags (s : State) : Nat :=
  wordOfList [s.seq.referencePresent, s.seq.referenceLost, s.seq.ringSilent, s.handler.ringIn, s.handler.ringOut]

/-- ROOT field 14 (R175): ring unsynchronised, lead short, enumeration outstanding, enumeration lost. -/
def State.rootFlags (s : State) : Nat :=
  wordOfList [s.root.ringUnsynchronised, s.root.leadShort, s.handler.enumerationOutstanding, s.handler.enumerationLost]

/-- PART fields 20 and 21 (R101, R175): the pending word of `count` sources from `first` on. -/
def RequestUnit.pendingWord (u : RequestUnit) (first count : Nat) : Nat :=
  wordOfList (((u.waiting.toList.map Option.isSome).drop first).take count)

end Sys2Proof.Machine
end

