-- ==== Sys2Proof/Machine/Events.lean ====
section
/-! DEFINITION. The event table: matching (R80 to R83), the actions of a match (R84 to R86), the settling of gate flags and
markers (R88, R90), and origin (R93). -/

namespace Sys2Proof.Machine

/-- The capture edge as a last-step change (R83). -/
def CaptureEdge.change : CaptureEdge → Change
  | .rise => .rise
  | .fall => .fall

/-- An examined entry matches in step `step`, from the tracks and cells as the step began (R81, R82, R83). -/
def EventEntry.meets (e : EventEntry) (step : Nat) (tracks : Vector TrackRun 24) (cells : Vector CellRun 16) : Bool :=
  match e.type, e.base with
  | .compare, .step => step == e.value
  | .compare, .edges =>
    (tracks[e.baseTrack]).lastEdge == .rise && (tracks[e.baseTrack]).edges == e.value % 2 ^ 32
  | .capture, _ => (cells[e.captureCell]).lastChange == e.captureEdge.change

/-- The entry is examined (R80) and matches. -/
def EventEntry.matches_ (e : EventEntry) (step : Nat) (tracks : Vector TrackRun 24) (cells : Vector CellRun 16) : Bool :=
  e.enabled && !e.done && e.meets step tracks cells

/-- The value a CAPTURE entry captures (R83): the step before, or the edge count. -/
def EventEntry.captured (e : EventEntry) (step : Nat) (tracks : Vector TrackRun 24) : Nat :=
  match e.base with
  | .step => step - 1
  | .edges => (tracks[e.baseTrack]).edges

/-- Action 4 of R84: with a limit, remaining falls by one. -/
def EventEntry.remainingAfter (e : EventEntry) : Nat := if e.limit = 0 then e.remaining else e.remaining - 1

/-- Action 4 of R84 brings remaining to 0. -/
def EventEntry.exhausts (e : EventEntry) : Bool := e.limit != 0 && e.remainingAfter == 0

/-- The value after a match, and whether the match ends it: R85 for COMPARE, R83 for CAPTURE. -/
def EventEntry.valueAfter (e : EventEntry) (step : Nat) (tracks : Vector TrackRun 24) : Nat × Bool :=
  match e.type with
  | .compare =>
    if e.period = 0 then (e.value, true)
    else
      match e.base with
      | .step => if e.value + e.period ≤ maxStep then (e.value + e.period, false) else (e.value, true)
      | .edges => ((e.value % 2 ^ 32 + e.period) % 2 ^ 32, false)
  | .capture => (if e.keepFirst && e.hits != 0 then e.value else e.captured step tracks, false)

/-- The entry after a match (R83, R84, R85). -/
def EventEntry.afterMatch (e : EventEntry) (step : Nat) (tracks : Vector TrackRun 24) : EventEntry :=
  let value := e.valueAfter step tracks
  { e with
    hits := raiseCount e.hits 1
    remaining := e.remainingAfter
    value := value.1
    done := e.done || e.exhausts || value.2 }

/-- The entry after a step. -/
def EventEntry.stepped (e : EventEntry) (step : Nat) (tracks : Vector TrackRun 24) (cells : Vector CellRun 16) : EventEntry :=
  if e.matches_ step tracks cells then e.afterMatch step tracks else e

/-- The kind an entry raises in a step, or NONE (R86). -/
def EventEntry.raises (e : EventEntry) (step : Nat) (tracks : Vector TrackRun 24) (cells : Vector CellRun 16) : Option Kind :=
  if e.matches_ step tracks cells then
    match e.requestWhen with
    | .each => e.requestKind
    | .last => if e.exhausts then e.requestKind else none
  else none

/-- The cause step of an entry's raise in step `step` (R86). -/
def EventEntry.causeStep (e : EventEntry) (step : Nat) : Nat :=
  match e.type with
  | .compare => step
  | .capture => step - 1

/-- What an entry offers to flag `g` in a step (R84, R88). -/
def EventEntry.offers (e : EventEntry) (g : Fin 8) (step : Nat) (tracks : Vector TrackRun 24) (cells : Vector CellRun 16) : Bool :=
  e.matches_ step tracks cells && e.gateOp != .none && e.gateFlag == g

/-- The offers to flag `g` in a step, in ascending entry index (R88). -/
def EventTable.offersTo (t : EventTable) (g : Fin 8) (step : Nat) (tracks : Vector TrackRun 24) (cells : Vector CellRun 16) :
    List GateOp :=
  (t.entries.toList.filter fun e => e.offers g step tracks cells).map fun e => e.gateOp

/-- The event table after a step: entries, flags (R88) and markers (R90). -/
def EventTable.stepped (t : EventTable) (step : Nat) (tracks : Vector TrackRun 24) (cells : Vector CellRun 16) : EventTable :=
  { entries := tabulate fun i => (t.entries[i]).stepped step tracks cells
    gates := tabulate fun g => settleFlag t.gates[g] (t.offersTo g step tracks cells)
    markers := tabulate fun m => t.entries.toList.any fun e => e.matches_ step tracks cells && e.marker == some m }

/-- The raises of a step reach the request unit (R86, R96). -/
def EventTable.raiseAll (t : EventTable) (step : Nat) (tracks : Vector TrackRun 24) (cells : Vector CellRun 16)
    (u : RequestUnit) : RequestUnit :=
  (List.finRange 32).foldl
    (fun v i => v.raise (Fin.castLE (by decide) i) ((t.entries[i]).raises step tracks cells) ((t.entries[i]).causeStep step)) u

/-- An entry at origin and at the in-band reset (R93). -/
def EventEntry.atOrigin (e : EventEntry) : EventEntry := { e with done := false, hits := 0, remaining := e.limit }

/-- The event table at origin and at the in-band reset (R93). -/
def EventTable.atOrigin (t : EventTable) : EventTable :=
  { entries := tabulate fun i => (t.entries[i]).atOrigin
    gates := Vector.replicate 8 false
    markers := Vector.replicate 8 false }

end Sys2Proof.Machine
end

