-- ==== Sys2Proof/Machine/Lanes.lean ====
section
/-! DEFINITION. The lane map: recording a step (R50), the source's value (R51, R53), the output (R49), fills (R53) and what an
activation fills (R54). -/

namespace Sys2Proof.Machine

/-- The value of a lane's source with the tracks and the step counter as given (R51, R53). -/
def LaneSource.value (source : LaneSource) (tracks : Vector TrackRun 24) (step : Nat) : Bool :=
  match source with
  | .track t => (tracks[t]).level
  | .parity => step % 2 == 1
  | .low => false

/-- The output level of a history under a record (R49). -/
def LaneRecord.outputOf (r : LaneRecord) (history : Vector Bool 16) : Bool := (history[r.retard]) ^^ r.invert

/-- Shift a value into a history: entry k becomes entry k+1 and the value entry 0 (R50). -/
def recordValue (history : Vector Bool 16) (v : Bool) : Vector Bool 16 :=
  tabulate fun k => if h : k.val = 0 then v else history[k.val - 1]

/-- A lane records its source's value after a step (R50). -/
def LaneRecord.recorded (r : LaneRecord) (history : Vector Bool 16) (tracks : Vector TrackRun 24) (step : Nat) : LaneRun :=
  let new := recordValue history (r.source.value tracks step)
  { history := new, output := r.outputOf new }

/-- A history fill (R53). -/
def LaneRecord.filled (r : LaneRecord) (tracks : Vector TrackRun 24) (step : Nat) : LaneRun :=
  let new := Vector.replicate 16 (r.source.value tracks step)
  { history := new, output := r.outputOf new }

/-- All 32 lanes record step `step` (R50). -/
def recordLanes (records : Vector LaneRecord 32) (lanes : Vector LaneRun 32) (tracks : Vector TrackRun 24) (step : Nat) :
    Vector LaneRun 32 :=
  tabulate fun i => (records[i]).recorded (lanes[i]).history tracks step

/-- All 32 histories filled (R53). -/
def fillLanes (records : Vector LaneRecord 32) (tracks : Vector TrackRun 24) (step : Nat) : Vector LaneRun 32 :=
  tabulate fun i => (records[i]).filled tracks step

/-- The lanes at an activation (R54): a lane whose record changed is filled, another keeps its history and output. -/
def activateLanes (old new : Vector LaneRecord 32) (lanes : Vector LaneRun 32) (tracks : Vector TrackRun 24) (step : Nat) :
    Vector LaneRun 32 :=
  tabulate fun i => if old[i] = new[i] then lanes[i] else (new[i]).filled tracks step

end Sys2Proof.Machine
end

