-- ==== Sys2Proof/Machine/Frames.lean ====
section
/-! DEFINITION. The frames of the ring: the check (R114), the three types (R113), the layouts (R116 to R118) read from bytes and
written to bytes, and which good frames are unknown (R115). -/

namespace Sys2Proof.Machine

/-! ### Multi-byte fields (07_the_beat_ring.md §7.3): most significant byte first -/

/-- The number spelled by bytes, the most significant first. -/
def numberOf (bytes : List Byte) : Nat := bytes.foldl (fun n b => n * 256 + b.toNat) 0

/-- The low `k` bytes of a number, the most significant first. -/
def bytesOf : Nat → Nat → List Byte
  | 0, _ => []
  | k + 1, n => bytesOf k (n / 256) ++ [BitVec.ofNat 8 n]

/-- The field of `k` bytes at byte `at_` of a frame. -/
def fieldAt (bytes : List Byte) (at_ k : Nat) : Nat := numberOf ((bytes.drop at_).take k)

/-- Byte `at_` of a frame. -/
def byteAt (bytes : List Byte) (at_ : Nat) : Byte := bytes.getD at_ 0

/-- The frame with the bytes from `at_` on replaced by `new`. -/
def patch (bytes : List Byte) (at_ : Nat) (new : List Byte) : List Byte :=
  bytes.take at_ ++ new ++ bytes.drop (at_ + new.length)

/-! ### The check (R114) -/

/-- One data bit into the remainder: move up, and combine with 1021h if the bit shifted out differs from the data bit. -/
def checkBit (remainder : BitVec 16) (bit : Bool) : BitVec 16 :=
  let moved := remainder <<< 1
  if remainder.msb = bit then moved else moved ^^^ 0x1021

/-- One byte into the remainder, its most significant bit first. -/
def checkByte (remainder : BitVec 16) (b : Byte) : BitVec 16 :=
  [b.getLsbD 7, b.getLsbD 6, b.getLsbD 5, b.getLsbD 4, b.getLsbD 3, b.getLsbD 2, b.getLsbD 1, b.getLsbD 0].foldl
    checkBit remainder

/-- The check value of bytes: the remainder starts at all ones, and there is no final inversion. -/
def checkValue (bytes : List Byte) : BitVec 16 := bytes.foldl checkByte 0xFFFF

/-- The contents of a frame with its check, the more significant byte first. -/
def withCheck (content : List Byte) : List Byte := content ++ bytesOf 2 (checkValue content).toNat

/-- The frame without its two check bytes. -/
def contentOf (bytes : List Byte) : List Byte := bytes.take (bytes.length - 2)

/-- The frame with its check computed anew over the bytes sent (R123). -/
def rechecked (bytes : List Byte) : List Byte := withCheck (contentOf bytes)

/-! ### Types (R113) -/

/-- The frame types. -/
inductive FrameType where
  | beat | service | enum
deriving DecidableEq, Repr

/-- The type of a type code. -/
def FrameType.ofCode (code : Byte) : Option FrameType :=
  if code = 1 then some .beat else if code = 2 then some .service else if code = 3 then some .enum else none

/-- The fixed length of a type, in bytes. -/
def FrameType.length : FrameType → Nat
  | .beat => 61
  | .service => 20
  | .enum => 5

/-- The type code in the first byte of a frame. -/
def frameType (bytes : List Byte) : Option FrameType := FrameType.ofCode (byteAt bytes 0)

/-- The length meets R113: that of a known type, or at least three bytes for any other type code. -/
def lengthMeets (bytes : List Byte) : Bool :=
  3 ≤ bytes.length &&
    match frameType bytes with
    | some t => bytes.length == t.length
    | none => true

/-- The frame is good (R114): its length meets R113 and the check over its bytes equals the value in its check bytes. -/
def frameGood (bytes : List Byte) : Bool :=
  lengthMeets bytes && fieldAt bytes (bytes.length - 2) 2 == (checkValue (contentOf bytes)).toNat

/-! ### Beat frames (R116, R117) -/

/-- The mode of a beat frame. -/
inductive BeatMode where
  | ready | run | halt
deriving DecidableEq, Repr

/-- The contents of a beat frame. -/
structure BeatFields where
  sequence : Nat
  mode : BeatMode
  haltKind : HaltKind
  originFlag : Bool
  activateFlag : Bool
  reached : Bool
  unsync : Bool
  originNumber : Nat
  stage : Nat
  activationStep : Nat
  grant : Nat
  haltStep : Nat
  slots : Vector (Option RequestRecord) 4
deriving DecidableEq, Repr

/-- The mode of a mode code; code 3 stands for no mode. -/
def BeatMode.ofCode : Nat → Option BeatMode
  | 0 => some .ready
  | 1 => some .run
  | 2 => some .halt
  | _ => none

/-- The code of a mode. -/
def BeatMode.code : BeatMode → Nat
  | .ready => 0
  | .run => 1
  | .halt => 2

/-- The kind of a slot's kind code; code 3 stands for no kind. -/
def Kind.ofSlotCode : Nat → Option Kind
  | 0 => some .mark
  | 1 => some .pause
  | 2 => some .brk
  | _ => none

/-- The slot code of a kind (R117), also its code in the HALT_RECORD and NOTICE tables (R175). -/
def Kind.slotCode : Kind → Nat
  | .mark => 0
  | .pause => 1
  | .brk => 2

/-- The code of a halt kind (R116, R175). -/
def HaltKind.code : HaltKind → Nat
  | .pause => 0
  | .brk => 1

/-- The halt kind of its bit in a beat frame (R116). -/
def HaltKind.ofBit (bit : Bool) : HaltKind := if bit then .brk else .pause

/-- The nine bytes of slot `k` in a beat frame. -/
def slotBytes (bytes : List Byte) (k : Nat) : List Byte := (bytes.drop (23 + 9 * k)).take 9

/-- The slot's occupied bit. -/
def slotOccupied (slot : List Byte) : Bool := (byteAt slot 0).getLsbD 7

/-- The ring position field of a slot. -/
def slotPosition (slot : List Byte) : Nat := (byteAt slot 0).toNat % 64

/-- The source code field of a slot. -/
def slotSource (slot : List Byte) : Nat := (byteAt slot 1).toNat / 4

/-- The kind code of a slot. -/
def slotKindCode (slot : List Byte) : Nat := (byteAt slot 2).toNat / 64

/-- The request record in a slot, if it is occupied (R117). A kind code of 3 does not reach a reader (R115). -/
def slotRecord (slot : List Byte) : Option RequestRecord :=
  if slotOccupied slot then
    some
      { position := slotPosition slot
        source := slotSource slot
        kind := (Kind.ofSlotCode (slotKindCode slot)).getD .mark
        level := (byteAt slot 1).toNat % 4
        causeStep := fieldAt slot 3 6
        merged := (byteAt slot 2).toNat % 16 }
  else none

/-- An occupied slot holds content that no beat frame can hold (R115). -/
def slotImpossible (slot : List Byte) : Bool :=
  slotOccupied slot &&
    (slotKindCode slot == 3 || (36 ≤ slotSource slot && slotSource slot ≤ 39) || 46 ≤ slotSource slot ||
      slotPosition slot == 63)

/-- The bytes of a slot (R117): a record is written whole with occupied 1; an empty slot is nine zeros. -/
def writtenSlot : Option RequestRecord → List Byte
  | none => List.replicate 9 0
  | some r =>
    [BitVec.ofNat 8 (128 + r.position % 64), BitVec.ofNat 8 (r.source * 4 + r.level % 4),
      BitVec.ofNat 8 (r.kind.slotCode * 64 + r.merged % 16)] ++ bytesOf 6 r.causeStep

/-- Byte 2 of a beat frame: mode, halt kind, ORIGIN, ACTIVATE, REACHED, UNSYNC, and bit 0 sent 0 (R116). -/
def flagByte (mode : Nat) (haltKind originFlag activateFlag reached unsync : Bool) : Byte :=
  BitVec.ofNat 8
    (mode * 64 + haltKind.toNat * 32 + originFlag.toNat * 16 + activateFlag.toNat * 8 + reached.toNat * 4 +
      unsync.toNat * 2)

/-- The mode code of a beat frame. -/
def modeCode (bytes : List Byte) : Nat := (byteAt bytes 2).toNat / 64

/-- The contents of a beat frame as its bytes spell them (R116). A mode code of 3 does not reach a reader (R115). -/
def readBeat (bytes : List Byte) : BeatFields :=
  let flags := byteAt bytes 2
  { sequence := fieldAt bytes 1 1
    mode := (BeatMode.ofCode (modeCode bytes)).getD .ready
    haltKind := HaltKind.ofBit (flags.getLsbD 5)
    originFlag := flags.getLsbD 4
    activateFlag := flags.getLsbD 3
    reached := flags.getLsbD 2
    unsync := flags.getLsbD 1
    originNumber := fieldAt bytes 3 1
    stage := fieldAt bytes 4 1
    activationStep := fieldAt bytes 5 6
    grant := fieldAt bytes 11 6
    haltStep := fieldAt bytes 17 6
    slots := tabulate fun k => slotRecord (slotBytes bytes k) }

/-- The 61 bytes of a beat frame (R116), with its check. -/
def writtenBeat (f : BeatFields) : List Byte :=
  withCheck
    ([1, BitVec.ofNat 8 f.sequence,
        flagByte f.mode.code (f.haltKind == .brk) f.originFlag f.activateFlag f.reached f.unsync,
        BitVec.ofNat 8 f.originNumber, BitVec.ofNat 8 f.stage] ++
      bytesOf 6 f.activationStep ++ bytesOf 6 f.grant ++ bytesOf 6 f.haltStep ++
      (f.slots.toList.map writtenSlot).flatten)

/-- A good BEAT frame has content that no beat frame can hold (R115). -/
def beatImpossible (bytes : List Byte) : Bool :=
  modeCode bytes == 3 || [0, 1, 2, 3].any fun k => slotImpossible (slotBytes bytes k)

/-- A beat frame's bytes with REACHED and UNSYNC rewritten, and bit 0 of that byte sent 0 (R116, R122). -/
def rewriteSummary (bytes : List Byte) (reached unsync : Bool) : List Byte :=
  let flags := byteAt bytes 2
  patch bytes 2
    [flagByte (modeCode bytes) (flags.getLsbD 5) (flags.getLsbD 4) (flags.getLsbD 3) reached unsync]

/-- A beat frame's bytes with a record written into slot `k` (R104). -/
def writeSlot (bytes : List Byte) (k : Nat) (r : RequestRecord) : List Byte :=
  patch bytes (23 + 9 * k) (writtenSlot (some r))

/-! ### Service and ENUM frames (R118) -/

/-- The bytes of a service frame with command code `code`, with its check. -/
def writtenService (code : BitVec 8) (f : ServiceFrame) : List Byte :=
  withCheck
    ([2, f.tag, f.reserved ++ f.destination, code, f.table] ++ bytesOf 2 f.index.toNat ++ [f.field, f.offset] ++
      bytesOf 4 f.value.toNat ++ [f.status] ++ bytesOf 4 f.replyValue.toNat)

/-- The contents of a service frame as its bytes spell them. -/
def readService (bytes : List Byte) : ServiceFrame :=
  { tag := byteAt bytes 1
    reserved := (byteAt bytes 2).extractLsb' 6 2
    destination := (byteAt bytes 2).extractLsb' 0 6
    table := byteAt bytes 4
    index := BitVec.ofNat 16 (fieldAt bytes 5 2)
    field := byteAt bytes 7
    offset := byteAt bytes 8
    value := BitVec.ofNat 32 (fieldAt bytes 9 4)
    status := byteAt bytes 13
    replyValue := BitVec.ofNat 32 (fieldAt bytes 14 4) }

/-- The bytes of an ENUM frame, with its check. -/
def writtenEnum (f : EnumFrame) : List Byte := withCheck [3, f.reserved ++ f.nextPosition, f.excessCount]

/-- The contents of an ENUM frame as its bytes spell them. -/
def readEnum (bytes : List Byte) : EnumFrame :=
  { reserved := (byteAt bytes 1).extractLsb' 6 2
    nextPosition := (byteAt bytes 1).extractLsb' 0 6
    excessCount := byteAt bytes 2 }

/-! ### Discards -/

/-- A frame that fails its check is discarded (R114): the check-error count rises and RING_CHECK, kind BREAK, is raised with
cause step C. -/
def State.discardFailed (s : State) : State :=
  (s.setHandler { s.handler with checkErrors := raiseCount s.handler.checkErrors 1 }).raise 33 (some .brk) s.seq.step

/-- An unknown frame is discarded and counted (R115); so is an ENUM frame at the root that nothing awaits (R127). -/
def State.discardUnknown (s : State) : State :=
  s.setHandler { s.handler with unknowns := raiseCount s.handler.unknowns 1 }

end Sys2Proof.Machine
end

