-- ==== Sys2Proof/Machine/Requests.lean ====
section
/-! DEFINITION. The request unit beyond the raise itself (Ops.lean): the choice of the best record, placement at a follower
(R103, R104), the record the root takes (R106), and the re-test at a write (R102). -/

namespace Sys2Proof.Machine

/-- The kind the source table shows for a source (R97): the event entry's for 0 to 31, BREAK for 33 and 35. -/
def State.sourceKind (s : State) (source : Fin 36) : Option Kind :=
  if h : source.val < 32 then (s.events.entries[source.val]).requestKind
  else if source = 32 then s.requests.underrunKind
  else if source = 34 then s.requests.clampKind
  else some .brk

/-- One source compared with the best so far (R104): a strictly higher level wins, so the lowest source code wins among equal
levels when the sources are taken in ascending order. -/
def betterRequest (u : RequestUnit) (best : Option (Fin 36 × PendingRequest)) (source : Fin 36) :
    Option (Fin 36 × PendingRequest) :=
  match u.waiting[source], best with
  | none, _ => best
  | some p, none => some (source, p)
  | some p, some (b, q) => if q.level < p.level then some (source, p) else some (b, q)

/-- The best pending record and its source (R104). -/
def RequestUnit.best (u : RequestUnit) : Option (Fin 36 × PendingRequest) :=
  (List.finRange 36).foldl (betterRequest u) none

/-- The record as placed or taken, its ring position filled (R104, R106). -/
def PendingRequest.placed (p : PendingRequest) (source position : Nat) : RequestRecord :=
  { position, source, kind := p.kind, level := p.level, causeStep := p.causeStep, merged := p.merged }

/-- A record leaves the pending set for a slot or the root: the placed count rises (R104, R106). -/
def RequestUnit.release (u : RequestUnit) (source : Fin 36) : RequestUnit :=
  { u with waiting := u.waiting.set source none, placedCount := raiseCount u.placedCount 1 }

/-- Empty the pending set; removed records are not counted (R108, R109). -/
def RequestUnit.emptied (u : RequestUnit) : RequestUnit := { u with waiting := Vector.replicate 36 none }

/-- The first empty slot of a beat frame, in slot order (R104). -/
def firstEmptySlot (bytes : List Byte) : Option Nat :=
  [0, 1, 2, 3].find? fun k => !slotOccupied (slotBytes bytes k)

/-- Some slot of the frame carries a record with this ring position (R103). -/
def carriesPosition (bytes : List Byte) (position : Nat) : Bool :=
  [0, 1, 2, 3].any fun k => slotOccupied (slotBytes bytes k) && slotPosition (slotBytes bytes k) == position

/-- Placement at a follower (R103, R104): with a ring position, an empty slot, no slot carrying the part's own position and a
record pending, the best record is written into the first empty slot. Else the frame and the set pass as they are. -/
def State.placeRequest (s : State) (bytes : List Byte) : State × List Byte :=
  match s.handler.position, firstEmptySlot bytes, s.requests.best with
  | some position, some slot, some (source, p) =>
    if s.seq.runState.numbered ∧ carriesPosition bytes position.val = false then
      (s.setRequests (s.requests.release source), writeSlot bytes slot (p.placed source.val position.val))
    else (s, bytes)
  | _, _, _ => (s, bytes)

/-- The re-test of one source's pending record (R102): removed and counted as a cancel if the source no longer qualifies, else
kept at `level` of the record. -/
def RequestUnit.retest (u : RequestUnit) (source : Fin 36) (newLevel : PendingRequest → Nat) : RequestUnit :=
  match u.waiting[source] with
  | none => u
  | some p =>
    if u.qualifies source then { u with waiting := u.waiting.set source (some { p with level := newLevel p }) }
    else { u with waiting := u.waiting.set source none, cancelCount := raiseCount u.cancelCount 1 }

/-- A write of a source's enable (R97, R102). -/
def RequestUnit.writeEnable (u : RequestUnit) (source : Fin 36) (enable : Bool) : RequestUnit :=
  let written := { u with settings := u.settings.set source { u.settings[source] with enable } }
  written.retest source fun p => p.level

/-- A write of a source's level (R97, R102): a record that stays takes the new level. -/
def RequestUnit.writeLevel (u : RequestUnit) (source : Fin 36) (level : Fin 4) : RequestUnit :=
  let written := { u with settings := u.settings.set source { u.settings[source] with level } }
  written.retest source fun _ => level.val

/-- A write of M re-tests every pending record (R98, R102). -/
def RequestUnit.writeMask (u : RequestUnit) (mask : Fin 4) : RequestUnit :=
  (List.finRange 36).foldl (fun v source => v.retest source fun p => p.level) { u with mask }

end Sys2Proof.Machine
end

