-- ==== Sys2Proof/Machine/Tracks.lean ====
section
/-! DEFINITION. The track engine: the gate (R37 to R40), the advance (R28 to R30), the walk in ascending index (R27), restart
(R43) and what an activation does to a running track (R44, R158). -/

namespace Sys2Proof.Machine

/-- The span of a level under a record: H when high, Lw when low (R26). -/
def TrackRecord.span (r : TrackRecord) (level : Bool) : Nat := if level then r.high else r.low

/-- The value read from the gate source, or absent when the source is NONE (R37). -/
def GateSource.read (source : GateSource) (flags : Vector Bool 8) (cells : Vector CellRun 16) : Option Bool :=
  match source with
  | .none => Option.none
  | .flag g => some flags[g]
  | .cell c => some (cells[c]).output

/-- The gate is read open in the step (R37). -/
def TrackRecord.gateOpen (r : TrackRecord) (flags : Vector Bool 8) (cells : Vector CellRun 16) : Bool :=
  match r.gateSource.read flags cells, r.gatePolarity with
  | none, _ => true
  | some v, .openHigh => v
  | some v, .openLow => !v

/-- The gate allows the track to advance: an open gate does, a closed HARD gate does not (R38), and a closed CLEAN gate does
while the level is 1 (R39). -/
def TrackRecord.gateAllows (r : TrackRecord) (isOpen level : Bool) : Bool :=
  isOpen || (r.gateStyle == .clean && level)

/-- The track advances in the step (R28). -/
def TrackRecord.advances (r : TrackRecord) (isOpen parentRose level : Bool) : Bool :=
  match r.mode with
  | .off => false
  | .free => r.gateAllows isOpen level
  | .follow => parentRose && r.gateAllows isOpen level

/-- The advance (R29): add the increment and compare once with the span of the level the step began with. -/
def TrackRun.advance (t : TrackRun) (r : TrackRecord) : TrackRun :=
  let sum := t.phase + r.increment
  if r.span t.level ≤ sum then
    if t.level then { t with phase := sum - r.high, level := false, lastEdge := .fall }
    else { t with phase := sum - r.low, level := true, lastEdge := .rise, edges := (t.edges + 1) % 2 ^ 32 }
  else { t with phase := sum, lastEdge := .noChange }

/-- A track that does not advance keeps its φ, level and E (R30). -/
def TrackRun.hold (t : TrackRun) : TrackRun := { t with lastEdge := .noChange }

/-- The close-pending flag after the step (R40), from its value, the gate and the level before and after. -/
def TrackRecord.closePendingAfter (r : TrackRecord) (old isOpen before after : Bool) : Bool :=
  if isOpen || !after then false else if r.gateStyle == .clean && before then true else old

/-- One track in one step (R27), given whether its parent rose in this step. -/
def TrackRun.stepped (t : TrackRun) (r : TrackRecord) (isOpen parentRose : Bool) : TrackRun :=
  let moved := if r.advances isOpen parentRose t.level then t.advance r else t.hold
  { moved with closePending := r.closePendingAfter t.closePending isOpen t.level moved.level }

/-- The parent has produced a rising edge earlier in this walk (R27, R34): its index is lower, so it has been computed. -/
def parentRose (tracks : Vector TrackRun 24) (i parent : Fin 24) : Bool :=
  decide (parent < i) && (tracks[parent]).lastEdge == .rise

/-- The walk's computation of track `i` (R27). -/
def walkTrack (records : Vector TrackRecord 24) (flags : Vector Bool 8) (cells : Vector CellRun 16)
    (tracks : Vector TrackRun 24) (i : Fin 24) : Vector TrackRun 24 :=
  let r := records[i]
  tracks.set i ((tracks[i]).stepped r (r.gateOpen flags cells) (parentRose tracks i r.parent))

/-- The walk of one step: tracks 0, 1, …, 23 in this order (R27). -/
def walkTracks (records : Vector TrackRecord 24) (flags : Vector Bool 8) (cells : Vector CellRun 16)
    (tracks : Vector TrackRun 24) : Vector TrackRun 24 :=
  (List.finRange 24).foldl (walkTrack records flags cells) tracks

/-- The running state a restart sets from the record (R43). -/
def TrackRecord.restarted (r : TrackRecord) : TrackRun :=
  { phase := min r.phaseOffset (r.span r.initialLevel - 1), level := r.initialLevel, edges := 0, lastEdge := .noChange,
    closePending := false }

/-- All 24 tracks restarted from their records (R43). -/
def restartTracks (records : Vector TrackRecord 24) : Vector TrackRun 24 := tabulate fun i => (records[i]).restarted

/-- The kept-phase clamp applies (R44, R158): the track keeps its running state and its φ is at or above the span of its level
under the new record. -/
def TrackRecord.keptPhaseClamps (r : TrackRecord) (t : TrackRun) : Bool :=
  !r.restartOnActivation && decide (r.span t.level ≤ t.phase)

/-- A track at an activation (R44): restarted, or kept with the kept-phase clamp and with close-pending kept only under a CLEAN
gate (R40). -/
def TrackRecord.activated (r : TrackRecord) (t : TrackRun) : TrackRun :=
  if r.restartOnActivation then r.restarted
  else
    { t with
      phase := if r.span t.level ≤ t.phase then r.span t.level - 1 else t.phase
      closePending := t.closePending && r.gateSource != .none && r.gateStyle == .clean }

end Sys2Proof.Machine
end

