-- ==== Sys2Proof/Machine/Plan.lean ====
section
/-! DEFINITION. The plan store: the clamps (R158), the application of an activation (R157), origin at one part (R19, R160), the
in-band reset of the per-step blocks (R22, R171), and what a follower learns from a beat frame (R155, R156). -/

namespace Sys2Proof.Machine

/-! ### Clamps (R158) -/

/-- The parent clamp applies to track `i`. -/
def TrackRecord.parentClamps (r : TrackRecord) (i : Fin 24) : Bool := r.mode == .follow && decide (i ≤ r.parent)

/-- The increment clamp applies. -/
def TrackRecord.incrementClamps (r : TrackRecord) : Bool := decide (min r.high r.low < r.increment)

/-- A track record as it enters the live bank. -/
def TrackRecord.clamped (r : TrackRecord) (i : Fin 24) : TrackRecord :=
  { r with
    mode := if r.parentClamps i then .free else r.mode
    increment := if r.incrementClamps then min r.high r.low else r.increment }

/-- The header as it enters the live bank. -/
def Header.clamped (h : Header) : Header := { h with lead := if h.lead < h.spacing then h.spacing else h.lead }

/-- A plan as it enters the live bank. -/
def Plan.clamped (p : Plan) : Plan :=
  { p with header := p.header.clamped, tracks := tabulate fun i => (p.tracks[i]).clamped i }

/-- The number of parent, increment and lead clamps a staged plan needs. -/
def Plan.recordClamps (p : Plan) : Nat :=
  ((List.finRange 24).map fun i => ((p.tracks[i]).parentClamps i).toNat + ((p.tracks[i]).incrementClamps).toNat).sum +
    (decide (p.header.lead < p.header.spacing)).toNat

/-- The number of kept-phase clamps an activation makes, against the clamped records. -/
def keptPhaseClamps (records : Vector TrackRecord 24) (tracks : Vector TrackRun 24) : Nat :=
  ((List.finRange 24).map fun i => ((records[i]).keptPhaseClamps tracks[i]).toNat).sum

/-! ### Application (R157) -/

/-- Steps 1, 2, 6 and 7 of R157 at the plan store: the staged bank copied and clamped, the clamp count and the live stage set,
and the lock ended. -/
def PlanStore.applied (p : PlanStore) (stage clamps : Nat) : PlanStore :=
  { p with live := p.staged.clamped, liveStage := stage, pendingActivation := none, clampsAtLast := clamps }

/-- PLAN_CLAMP is raised when clamps were made, with the kind of the source table (R157, step 6). -/
def State.raiseClamps (s : State) (clamps causeStep : Nat) : State :=
  if clamps = 0 then s else s.raise 34 s.requests.clampKind causeStep

/-- An activation applied at its due step or late (R157): records clamped, tracks restarted or kept, changed lanes filled,
changed cells restarted. The event table, gate flags, markers, C, G and the run state stay. -/
def State.activate (s : State) (a : Activation) : State :=
  let new := s.plan.staged.clamped
  let clamps := s.plan.staged.recordClamps + keptPhaseClamps new.tracks s.tracks
  let tracks : Vector TrackRun 24 := tabulate fun i => (new.tracks[i]).activated s.tracks[i]
  let lanes := activateLanes s.plan.live.lanes new.lanes s.lanes tracks s.seq.step
  let cells := activateCells s.plan.live.cells new.cells s.cells tracks s.events.gates
  ((((s.setPlan (s.plan.applied a.stage clamps)).setTracks tracks).setLanes lanes).setCells cells).raiseClamps clamps a.step

/-- Every track restarted, every lane filled and every cell restarted from the live plan, the gate flags counting as 0 (R19 sixth
step, R43, R53, R72). -/
def State.restartBlocks (s : State) : State :=
  let tracks := restartTracks s.plan.live.tracks
  let lanes := fillLanes s.plan.live.lanes tracks s.seq.step
  let cells := restartCells s.plan.live.cells s.cells (fun _ => true) tracks (Vector.replicate 8 false)
  ((s.setTracks tracks).setLanes lanes).setCells cells

/-- The clamps an origin's application makes: no track keeps its state, so none is a kept-phase clamp (R160). -/
def PlanStore.originClamps (p : PlanStore) : Nat := if p.pendingActivation.isSome then p.staged.recordClamps else 0

/-- A pending activation applied by an origin, at the plan store (R160). -/
def PlanStore.atOrigin (p : PlanStore) : PlanStore :=
  match p.pendingActivation with
  | none => p
  | some a => p.applied a.stage p.staged.recordClamps

/-- The sequencer at origin, the first four steps of R19. -/
def Sequencer.atOrigin (q : Sequencer) (number now beatTimeout : Nat) : Sequencer :=
  let restarted : Sequencer :=
    { q with
      step := 0, grant := 0, haltStep := none, haltKind := .pause, originNumber := some number, runState := .ready
      ringSilent := false, referenceLost := false }
  restarted.restartFollowerWatchdog now beatTimeout

/-- A part performs origin number `number` (R19), the PLAN_CLAMP raise last, with cause step 0 (R160). -/
def State.performOrigin (s : State) (number : Nat) : State :=
  let clamps := s.plan.originClamps
  let t := s.setSeq (s.seq.atOrigin number s.clock.time s.plan.live.header.beatTimeout)
  let t := (t.setPlan t.plan.atOrigin).restartBlocks
  let t := (t.setEvents t.events.atOrigin).setRequests t.requests.emptied
  t.raiseClamps clamps 0

/-- The sequencer at an in-band reset that performs no origin (R22). -/
def Sequencer.atReset (q : Sequencer) (now beatTimeout : Nat) : Sequencer :=
  let restarted : Sequencer :=
    { q with
      step := 0, grant := 0, haltStep := none, haltKind := .pause
      runState := if q.runState.numbered then .ready else q.runState
      originNumber := if q.role = .follower then none else q.originNumber
      ringSilent := false, referenceLost := false }
  restarted.restartFollowerWatchdog now beatTimeout

/-- The in-band reset of every block but the root timebase, without an origin (R22, R171): a pending activation stays. -/
def State.resetBlocks (s : State) : State :=
  let t := (s.setSeq (s.seq.atReset s.clock.time s.plan.live.header.beatTimeout)).restartBlocks
  (t.setEvents t.events.atOrigin).setRequests t.requests.emptied

/-! ### Learning of an activation (R155, R156) -/

/-- A late application (R156): applied at once, counted, and LATE_ACTIVATION raised. -/
def State.activateLate (s : State) (a : Activation) : State :=
  let t := s.activate a
  (t.setPlan { t.plan with lateCount := raiseCount t.plan.lateCount 1 }).raise 35 (some .brk) a.step

/-- A stage applied as origin applies it, at the frame at which the part performed origin (R160): the plan store applies it, every
track, lane and cell restarts again, and PLAN_CLAMP carries cause step 0. -/
def State.activateAtOrigin (s : State) (a : Activation) : State :=
  let clamps := s.plan.staged.recordClamps
  ((s.setPlan (s.plan.applied a.stage clamps)).restartBlocks).raiseClamps clamps 0

/-- What a follower makes of an activation it has just recorded as pending (R155, second table). -/
def State.weighActivation (s : State) (a : Activation) (originPerformed : Bool) : State :=
  if originPerformed ∧ a.step = 0 then s.activateAtOrigin a
  else if s.seq.runState.readsGrant ∧ s.seq.synchronised ∧ a.step ≤ s.seq.step then s.activateLate a
  else s

/-- The ACTIVATE fields of a beat frame name something a follower has to record (R155, first table): the flag is set, the stage
is not the live one, and it is not the pending one with the same activation step. -/
def PlanStore.learns (p : PlanStore) (f : BeatFields) : Bool :=
  f.activateFlag && f.stage != p.liveStage && p.pendingActivation != some { stage := f.stage, step := f.activationStep }

/-- The plan store of a follower reads a good beat frame (R155). -/
def State.readActivation (s : State) (f : BeatFields) (originPerformed : Bool) : State :=
  if s.plan.learns f then
    let a : Activation := { stage := f.stage, step := f.activationStep }
    (s.setPlan { s.plan with pendingActivation := some a }).weighActivation a originPerformed
  else s

end Sys2Proof.Machine
end

