-- ==== Sys2Proof/Machine/Timebase.lean ====
section
/-! DEFINITION. The root timebase: requests at the root (R138 to R140), beat emission (R130 to R133), returned beat frames (R134,
R135, R137, R141), the timeouts at the root (R136, R127), the notice queue (R143), the start of a run (R145) and the announcement of an origin (R148). -/

namespace Sys2Proof.Machine

/-! ### Requests at the root (R138) -/

/-- A notice joins the tail of the queue, or is dropped and counted (R143). -/
def RootTimebase.notify (r : RootTimebase) (n : LoggedRequest) : RootTimebase :=
  if r.notices.length < 16 then { r with notices := r.notices ++ [n] }
  else { r with noticeDropCount := raiseCount r.noticeDropCount 1 }

/-- Clear halt-current in every entry listed (R133). -/
def RootTimebase.clearHaltCurrent (r : RootTimebase) : RootTimebase :=
  { r with outstanding := r.outstanding.map fun e => { e with haltCurrent := false } }

/-- Clear all three flags in every entry listed (R133, R148). -/
def RootTimebase.clearCurrent (r : RootTimebase) : RootTimebase :=
  { r with
    outstanding :=
      r.outstanding.map fun e => { e with haltCurrent := false, originCurrent := false, numberingCurrent := false } }

/-- The halt record a decision opens, with its primary (R139). -/
def HaltRecord.decided (kind : HaltKind) (haltStep decisionStep : Nat) (primary : RequestRecord) : HaltRecord :=
  { isOpen := true, kind, haltStep := some haltStep, decisionStep := some decisionStep,
    entries := [{ request := primary, arrivalStep := decisionStep, late := false }], overflowCount := 0 }

/-- The halt decision (R139): F is G_root. -/
def State.decideHalt (s : State) (primary : RequestRecord) : State :=
  let kind := primary.kind.toHalt
  let root := s.root.clearHaltCurrent
  (s.setRoot { root with haltRecord := HaltRecord.decided kind s.root.rootGrant s.seq.step primary, target := none }).setSeq
    { s.seq with haltStep := some s.root.rootGrant, haltKind := kind, runState := .halting }

/-- A secondary joins the halt record, or is counted as overflow (R140). -/
def HaltRecord.append (h : HaltRecord) (n : LoggedRequest) : HaltRecord :=
  if h.entries.length < 8 then { h with entries := h.entries ++ [n] }
  else { h with overflowCount := raiseCount h.overflowCount 1 }

/-- A BREAK escalates a PAUSE halt (R140): the kind becomes BREAK, and a root in HALTED enters BROKEN. -/
def State.escalate (s : State) : State :=
  (s.setRoot { s.root with haltRecord := { s.root.haltRecord with kind := .brk } }).setSeq
    { s.seq with haltKind := .brk, runState := if s.seq.runState = .halted then .broken else s.seq.runState }

/-- A secondary of the halt in force (R140): late if the halt had been confirmed. -/
def State.addSecondary (s : State) (record : RequestRecord) : State :=
  let n : LoggedRequest :=
    { request := record, arrivalStep := s.seq.step, late := s.seq.runState == .halted || s.seq.runState == .broken }
  let t := s.setRoot { s.root with haltRecord := s.root.haltRecord.append n }
  if record.kind = .brk ∧ s.seq.haltKind = .pause then t.escalate else t

/-- A notice with the root's step counter as its arrival root step (R138). -/
def State.addNotice (s : State) (record : RequestRecord) (late : Bool) : State :=
  s.setRoot (s.root.notify { request := record, arrivalStep := s.seq.step, late })

/-- The table of R138. A root in COLD or IDLE lists no frame and emits none, so no record reaches it there. -/
def State.processRecord (s : State) (record : RequestRecord) : State :=
  match record.kind, s.seq.runState with
  | .mark, _ => s.addNotice record false
  | .pause, .run | .brk, .run => s.decideHalt record
  | .pause, .halting | .pause, .halted | .pause, .broken | .brk, .halting | .brk, .halted | .brk, .broken =>
    s.addSecondary record
  | .pause, .ready | .pause, .stranded | .brk, .ready | .brk, .stranded => s.addNotice record true
  | .pause, .cold | .pause, .idle | .brk, .cold | .brk, .idle => s

/-- A root-local cause (R107, R138): ring position 0, level 3, merged count 0. -/
def localCause (code : Nat) (kind : Kind) (causeStep : Nat) : RequestRecord :=
  { position := 0, source := code, kind, level := 3, causeStep, merged := 0 }

/-! ### Emission (R131, R132) -/

/-- Step 1 of R132: the request unit gives up its best record (R106), and the timebase processes it. -/
def State.takeOwnRequest (s : State) : State :=
  match s.requests.best with
  | none => s
  | some (source, p) => (s.setRequests (s.requests.release source)).processRecord (p.placed source.val 0)

/-- The candidate grant of step 2 of R132: C_root + Ld, capped at the target and at 2^48−1. -/
def State.candidateGrant (s : State) : Nat :=
  let lead := s.seq.step + s.plan.live.header.lead
  let capped := match s.root.target with
    | none => lead
    | some t => min lead t
  min capped maxStep

/-- Step 2 of R132, in RUN: G_root and the sequencer's G rise to the candidate and never fall. -/
def State.raiseGrant (s : State) : State :=
  let grant := max s.root.rootGrant s.candidateGrant
  (s.setRoot { s.root with rootGrant := grant }).setSeq { s.seq with grant }

/-- Step 3 of R132, in RUN: the grant is tested against the target, then against the end of the count. -/
def State.testGrant (s : State) : State :=
  if s.root.target = some s.root.rootGrant then s.decideHalt (localCause 41 .pause s.root.rootGrant)
  else if s.root.rootGrant = maxStep then s.decideHalt (localCause 45 .pause maxStep)
  else s

/-- The announcement the frame carries, or stage 0 at step 0 with the flag clear (R131, R154). ROOT fields 23 to 25 read it too:
that they read 0 while nothing is announced is log entry 28. -/
def PlanStore.announcement (p : PlanStore) : Activation := p.announced.getD { stage := 0, step := 0 }

/-- The frame composed from the root's state (R131). -/
def State.composeBeat (s : State) : BeatFields :=
  let halt := s.seq.runState == .halting || s.seq.runState == .halted || s.seq.runState == .broken
  let f := s.seq.haltStep.getD 0
  { sequence := s.root.nextSequence
    mode := if halt then .halt else if s.seq.runState = .run then .run else .ready
    haltKind := if halt then s.seq.haltKind else .pause
    originFlag := s.root.originOutstanding
    activateFlag := s.plan.announced.isSome
    reached := halt && s.seq.step == f
    unsync := false
    originNumber := s.root.announcedOrigin.getD 0
    stage := s.plan.announcement.stage
    activationStep := s.plan.announcement.step
    grant := if halt then f else s.root.rootGrant
    haltStep := if halt then f else 0
    slots := Vector.replicate 4 none }

/-- The entry of an emitted frame (R133). -/
def State.listEntry (s : State) (f : BeatFields) : OutstandingBeat :=
  { sequence := f.sequence, grant := f.grant, rootStep := s.seq.step, emissionTime := s.clock.time,
    haltCurrent := f.mode == .halt, originCurrent := f.originFlag, numberingCurrent := true }

/-- Step 4 of R132: the frame is composed, listed and handed to the output queue, even if the queue discards it (R111). -/
def State.sendBeat (s : State) : State :=
  let f := s.composeBeat
  (s.setRoot
    { s.root with
      outstanding := s.root.outstanding ++ [s.listEntry f]
      nextSequence := (s.root.nextSequence + 1) % 256 }).hand (writtenBeat f)

/-- One emission (R132). -/
def State.emit (s : State) : State :=
  let t := s.takeOwnRequest
  let t := if t.seq.runState = .run then t.raiseGrant else t
  let t := if t.seq.runState = .run then t.testGrant else t
  t.sendBeat

/-- The outstanding beat list has room (R130). -/
def RootTimebase.hasRoom (r : RootTimebase) : Bool := decide (r.outstanding.length < 32)

/-- An emission that has fallen due is made, or deferred and counted when the list is full (R130). -/
def State.emitOrDefer (s : State) : State :=
  if s.root.hasRoom then s.emit
  else s.setRoot { s.root with deferredCount := raiseCount s.root.deferredCount 1, emissionDue := true }

/-- A deferred emission is made if the list has room (R130). -/
def State.emitDeferred (s : State) : State :=
  if s.root.hasRoom then (s.setRoot { s.root with emissionDue := false }).emit else s

/-- The root's cadence at one strobe, with the beat spacing that was live when the strobe began (R130, R159). -/
def State.cadence (s : State) (spacing : Nat) : State :=
  if s.seq.role = .root ∧ s.seq.runState.numbered then
    if s.root.emissionDue then s.emitDeferred
    else if spacing ≤ s.root.emissionCount + 1 then (s.setRoot { s.root with emissionCount := 0 }).emitOrDefer
    else s.setRoot { s.root with emissionCount := s.root.emissionCount + 1 }
  else s

/-! ### Returned frames (R134 to R137, R141) -/

/-- The round trip of a returned frame (R135), for an entry emitted under the current numbering. -/
def State.measureRoundTrip (s : State) (e : OutstandingBeat) : State :=
  if e.numberingCurrent then
    let trip := s.seq.step - e.rootStep
    s.setRoot
      { s.root with
        largestRoundTrip := min (max s.root.largestRoundTrip trip) 65535
        leadShort := s.root.leadShort || decide (s.plan.live.header.lead < trip) }
  else s

/-- One slot of a returned frame: the record of an occupied slot is processed. -/
def State.processSlot (s : State) (slot : Option RequestRecord) : State :=
  match slot with
  | none => s
  | some r => s.processRecord r

/-- Part 1 of R137: the four slots in slot order. -/
def State.processSlots (s : State) (f : BeatFields) : State := f.slots.toList.foldl State.processSlot s

/-- Part 2 of R137: the ring unsynchronised flag, and the halt it decides in RUN with root-local cause UNSYNC. -/
def State.takeUnsync (s : State) (f : BeatFields) : State :=
  let t := s.setRoot { s.root with ringUnsynchronised := f.unsync }
  if t.seq.runState = .run ∧ f.unsync then t.decideHalt (localCause 44 .brk t.seq.step) else t

/-- Part 3 of R137: confirmation, or stranding (R141). -/
def State.confirm (s : State) (f : BeatFields) (haltCurrent : Bool) : State :=
  if s.seq.runState = .halting ∧ haltCurrent then
    if f.unsync then s.enterStranded
    else if f.reached then s.setSeq { s.seq with runState := s.seq.haltKind.endState }
    else s
  else s

/-- Part 4 of R137: the end of an origin announcement. -/
def State.endOrigin (s : State) (e : OutstandingBeat) : State :=
  s.setRoot { s.root with originOutstanding := s.root.originOutstanding && !e.originCurrent }

/-- The frame completes the announced activation (R154): it carried the same stage and activation step and was emitted at a root
step at or above that step. -/
def PlanStore.completes (p : PlanStore) (f : BeatFields) (e : OutstandingBeat) : Bool :=
  f.activateFlag && p.announced == some { stage := f.stage, step := f.activationStep } &&
    decide (f.activationStep ≤ e.rootStep)

/-- Part 5 of R137: completion of the announced activation (R154). -/
def State.completeActivation (s : State) (f : BeatFields) (e : OutstandingBeat) : State :=
  if s.plan.completes f e then s.setPlan { s.plan with announced := none } else s

/-- A returned frame with its matched entry (R135, R137). A halt decided in this same processing cannot be confirmed by this
frame, so the entry's halt-current flag counts only if the root was not in RUN when the processing began. -/
def State.processReturn (s : State) (f : BeatFields) (e : OutstandingBeat) : State :=
  let haltCurrent := e.haltCurrent && s.seq.runState != .run
  let t := ((s.measureRoundTrip e).processSlots f).takeUnsync f
  ((t.confirm f haltCurrent).endOrigin e).completeActivation f e

/-- RING_LOSS, taken when a return matches a later entry (R134): in any state outside IDLE. -/
def State.ringLoss (s : State) : State :=
  if s.seq.runState = .idle then s else s.processRecord (localCause 42 .brk s.seq.step)

/-- The frame's entry, at the head of the list, is removed and the frame processed (R134). -/
def State.takeHead (s : State) (f : BeatFields) : State :=
  match s.root.outstanding with
  | [] => s
  | e :: rest => (s.setRoot { s.root with outstanding := rest }).processReturn f e

/-- A good beat frame at the root's ring-in is consumed and matched by its sequence (R134): `j` older entries are lost. -/
def State.takeBeat (s : State) (bytes : List Byte) : State :=
  let f := readBeat bytes
  match s.root.outstanding.findIdx? fun e => e.sequence == f.sequence with
  | none => s.setRoot { s.root with foreignCount := raiseCount s.root.foreignCount 1 }
  | some 0 => s.takeHead f
  | some (j + 1) =>
    let t :=
      s.setRoot
        { s.root with
          outstanding := s.root.outstanding.drop (j + 1), lostCount := raiseCount s.root.lostCount (j + 1) }
    t.ringLoss.takeHead f

/-- The return timeout at the root (R136). -/
def State.returnTimedOut (s : State) : State :=
  let t :=
    (s.setRoot
      { s.root with
        outstanding := [], lostCount := raiseCount s.root.lostCount s.root.outstanding.length }).setSeq
      { s.seq with ringSilent := true }
  match s.seq.runState with
  | .run => t.processRecord (localCause 43 .brk t.seq.step)
  | .halting => (t.processRecord (localCause 43 .brk t.seq.step)).enterStranded
  | .cold | .idle | .ready | .halted | .broken | .stranded => t

/-- The age of the oldest outstanding entry in microseconds; 0 while the list is empty (R136, R175). -/
def State.oldestAge (s : State) : Nat :=
  match s.root.outstanding with
  | [] => 0
  | e :: _ => s.clock.time - e.emissionTime

/-! ### Runs and origins (R145, R148) -/

/-- The return timeout has expired at the root (R136): the age of the oldest entry has reached the live value. -/
def State.returnOverdue (s : State) : Bool :=
  s.seq.role == .root && !s.root.outstanding.isEmpty && decide (s.plan.live.header.returnTimeout ≤ s.oldestAge)

/-- The enumeration timer has expired at the root (R127). -/
def State.enumerationOverdue (s : State) : Bool :=
  s.seq.role == .root && s.handler.enumerationOutstanding &&
    decide (s.plan.live.header.returnTimeout ≤ s.handler.enumerationTimer)

/-- The end of an enumeration by its timer (R127). -/
def State.loseEnumeration (s : State) : State :=
  s.setHandler
    { s.handler with
      enumerationOutstanding := false, ringSize := none, enumerationLost := true
      enumerationTimer := max s.handler.enumerationTimer s.plan.live.header.returnTimeout }

/-- Right after an activation is applied at the root, the age and the enumeration timer are compared with the new return timeout
(R159): each one that has reached it expires at once. -/
def State.expireOverdue (s : State) : State :=
  let t := if s.returnOverdue then s.returnTimedOut else s
  if t.enumerationOverdue then t.loseEnumeration else t

/-- RUN and RUN_FOR taken in READY or HALTED (R145): the target set, F absent, the record closed, halt-current cleared, and an
emission at once. With the reference absent the emission is made too: R145 says so, while R7 and R130 say that nothing is emitted
while it is absent (log entry 27). -/
def State.startRun (s : State) (target : Option Nat) : State :=
  let root := s.root.closeRecord.clearHaltCurrent
  let t :=
    (s.setRoot { root with target, emissionCount := 0 }).setSeq { s.seq with haltStep := none, runState := .run }
  t.emitOrDefer

/-- The next announced origin number (R148): one more modulo 256, or 0 if absent. -/
def nextOrigin : Option Nat → Nat
  | none => 0
  | some n => (n + 1) % 256

/-- The announced activation at an origin of the root: its activation step becomes 0 (R160). -/
def PlanStore.announceAtOrigin (p : PlanStore) : PlanStore :=
  { p with announced := p.announced.map fun a => { a with step := 0 } }

/-- The root announces an origin (R148), applying a pending activation (R160); a timeout that its header has already reached then
expires at once, as the origin ends (R159, log entry 25). -/
def State.announceOrigin (s : State) : State :=
  let number := nextOrigin s.root.announcedOrigin
  let t := s.performOrigin number
  let root := t.root.closeRecord.clearCurrent
  let t :=
    (t.setRoot
      { root with announcedOrigin := some number, rootGrant := 0, target := none, originOutstanding := true }).setPlan
      t.plan.announceAtOrigin
  if s.plan.pendingActivation.isSome then t.expireOverdue else t

/-- The items of the timebase that RESET_PART clears (R149). -/
def RootTimebase.cleared (r : RootTimebase) : RootTimebase :=
  { r with
    rootGrant := 0, target := none, emissionCount := 0, emissionDue := false, outstanding := []
    haltRecord := HaltRecord.default, notices := [], lastNotice := none }

/-- RESET_PART (R22, R149, R171): at a follower, and at a root in IDLE, the blocks reset without an origin; at a root in a numbered
state the timebase is cleared and an origin announced. -/
def State.resetPart (s : State) : State :=
  match s.seq.role with
  | .follower => s.resetBlocks
  | .root =>
    let t := s.setRoot s.root.cleared
    if s.seq.runState.numbered then t.announceOrigin else t.resetBlocks

end Sys2Proof.Machine
end

