-- ==== Sys2Proof/Machine/Sequencing.lean ====
section
/-! DEFINITION. The step sequencer at work: the taking of a step (R5), what a strobe does in each run state (R4, R6, R15), and how a
follower reads a beat frame (R10 to R14). -/

namespace Sys2Proof.Machine

/-! ### Steps (R4, R5, R6) -/

/-- Part 1 of R5: an activation due at the step is applied before anything else (R157). -/
def State.applyDue (s : State) (step : Nat) : State :=
  match s.plan.pendingActivation with
  | none => s
  | some a => if a.step = step then s.activate a else s

/-- Parts 2 to 4 of R5: the per-step blocks compute step `step` from the state as it began; the lane map records the levels the
walk leaves, and C becomes the number of the step. -/
def State.computeStep (s : State) (watch : BitVec 16) (step : Nat) : State :=
  let tracks := walkTracks s.plan.live.tracks s.events.gates s.cells s.tracks
  let lanes := recordLanes s.plan.live.lanes s.lanes tracks step
  let cells := stepCells s.plan.live.cells s.cells s.tracks s.events.gates watch
  let events := s.events.stepped step s.tracks s.cells
  let requests := s.events.raiseAll step s.tracks s.cells s.requests
  (((((s.setTracks tracks).setLanes lanes).setCells cells).setEvents events).setRequests requests).setSeq
    { s.seq with step }

/-- An activation is due at the step (R157). -/
def PlanStore.isDueAt (p : PlanStore) (step : Nat) : Bool :=
  match p.pendingActivation with
  | none => false
  | some a => a.step == step

/-- The taking of step C+1 (R5). A timeout that the header of an activation applied at it has already reached expires at once, as
the step ends (R159, log entry 25). -/
def State.takeStep (s : State) (watch : BitVec 16) : State :=
  let step := s.seq.step + 1
  let t := (s.applyDue step).computeStep watch step
  if s.plan.isDueAt step then t.expireOverdue else t

/-- An underrun (R6): counted, and UNDERRUN raised with the step the strobe could not take (R96). At C = 2^48−1 that step is outside
the range of a cause step (R95): the pending record then holds 2^48, and its slot carries 0 (log entry 29). -/
def State.underrun (s : State) : State :=
  (s.setSeq { s.seq with underrunCount := raiseCount s.seq.underrunCount 1 }).raise 32 s.requests.underrunKind
    (s.seq.step + 1)

/-- A follower in HALTING that has taken step F enters HALTED or BROKEN by kind (R15); the root waits for confirmation (R16). -/
def State.endHalting (s : State) : State :=
  if s.seq.role = .follower ∧ s.seq.haltStep = some s.seq.step then
    s.setSeq { s.seq with runState := s.seq.haltKind.endState }
  else s

/-- C is below the halt step (R4). -/
def Sequencer.belowHalt (q : Sequencer) : Bool :=
  match q.haltStep with
  | none => false
  | some f => decide (q.step < f)

/-- What a strobe does in the current run state (R4). -/
def State.actOnStrobe (s : State) (watch : BitVec 16) : State :=
  match s.seq.runState with
  | .run => if s.seq.step < s.seq.grant then s.takeStep watch else s.underrun
  | .halting => if s.seq.step < s.seq.grant ∧ s.seq.belowHalt then (s.takeStep watch).endHalting else s
  | .cold | .idle | .ready | .halted | .broken | .stranded => s

/-- A strobe can be issued (R3): the part is out of COLD and the reference is present. -/
def Sequencer.strobes (q : Sequencer) : Bool := q.runState != .cold && q.referencePresent

/-- A pace strobe (R3, R4, R130): the strobe count restarts, the sequencer acts and the root's cadence is taken, in either order,
and the pace in force is loaded from the live P (R159: also of an activation applied at this strobe). -/
def State.strobe (s : State) (watch : BitVec 16) (order : StrobeOrder) : State :=
  let spacing := s.plan.live.header.spacing
  let t := s.setSeq { s.seq with strobeCount := 0 }
  let t := match order with
    | .stepFirst => (t.actOnStrobe watch).cadence spacing
    | .emissionFirst => (t.cadence spacing).actOnStrobe watch
  t.setSeq { t.seq with paceInForce := t.plan.live.header.pace }

/-! ### How a follower reads a beat frame (R10 to R14) -/

/-- The frame makes the follower perform origin (R10): the ORIGIN flag is set and the number differs from the part's own, an
absent number differing from every number. -/
def Sequencer.mustOrigin (q : Sequencer) (f : BeatFields) : Bool :=
  q.runState.numbered && f.originFlag && q.originNumber != some f.originNumber

/-- The grant and halt fields (R11). -/
def Sequencer.readGrant (q : Sequencer) (f : BeatFields) : Sequencer :=
  let q := { q with grant := max q.grant f.grant }
  match f.mode with
  | .halt => { q with haltStep := some f.haltStep, haltKind := f.haltKind }
  | .ready | .run => q

/-- Mode READY (R12): the follower in RUN or HALTING is stranded. -/
def Sequencer.readReady (q : Sequencer) : Sequencer :=
  match q.runState with
  | .run | .halting => { q with runState := .stranded }
  | .cold | .idle | .ready | .halted | .broken | .stranded => q

/-- Mode RUN (R13), G already updated. -/
def Sequencer.readRun (q : Sequencer) : Sequencer :=
  match q.runState with
  | .ready => if q.step < q.grant then { q with runState := .run } else q
  | .halting | .halted | .broken => { q with runState := .run, haltStep := none }
  | .cold | .idle | .run | .stranded => q

/-- Mode HALT (R14): C compared with F, the kind already taken. -/
def Sequencer.readHalt (q : Sequencer) (haltStep : Nat) : Sequencer :=
  if q.step < haltStep then { q with runState := .halting }
  else if q.step = haltStep then { q with runState := q.haltKind.endState }
  else { q with runState := .stranded }

/-- The grant, halt and mode fields, read by a synchronised follower in READY, RUN, HALTING, HALTED or BROKEN (R10). -/
def Sequencer.readFields (q : Sequencer) (f : BeatFields) : Sequencer :=
  if q.runState.readsGrant ∧ q.synchronised then
    match f.mode with
    | .ready => (q.readGrant f).readReady
    | .run => (q.readGrant f).readRun
    | .halt => (q.readGrant f).readHalt f.haltStep
  else q

/-- The sequencer reads a good beat frame (R10): the watchdog first, then the origin fields, then grant, halt and mode. -/
def State.readBeatFields (s : State) (f : BeatFields) : State :=
  let t := s.setSeq (s.seq.restartWatchdog s.clock.time s.plan.live.header.beatTimeout)
  let t := if s.seq.mustOrigin f then t.performOrigin f.originNumber else t
  t.setSeq (t.seq.readFields f)

/-- The reached value (R10, R122): synchronised, in a state that read the halt fields, mode HALT, and C = F. -/
def Sequencer.reached (q : Sequencer) (f : BeatFields) : Bool :=
  q.synchronised && q.runState.readsGrant && f.mode == .halt && q.step == f.haltStep

/-- A good beat frame at a follower (R119): the sequencer, the plan store, the request unit, the summary bits, the forwarding. -/
def State.passBeat (s : State) (bytes : List Byte) : State :=
  let f := readBeat bytes
  let read := (s.readBeatFields f).readActivation f (s.seq.mustOrigin f)
  let placed := read.placeRequest bytes
  placed.1.hand
    (rechecked (rewriteSummary placed.2 (f.reached && read.seq.reached f) (f.unsync || read.seq.unsync)))

end Sys2Proof.Machine
end

