-- ==== Sys2Proof/Machine/Operands.lean ====
section
/-! DEFINITION. What a service frame names: status codes and tables (R164), the fields of each table with their codes (R172 to
R175), which are defined and writable (R97, R172), and the range of each (R24, R48, R58, R77, R97, R98, R150). A field is read as
a number and written from one. -/

namespace Sys2Proof.Machine

/-! ### Status codes and tables (R164) -/

/-- The outcomes of a command (R164); NO_ANSWER is the controller's own. -/
inductive Status where
  | ok | badCommand | badTable | badIndex | badField | badValue | readOnly | stageBusy | wrongState | notRoot | cursorEnd
  | busy | degraded | breakOpen | empty | countEnd
deriving DecidableEq, Repr

/-- The reply status code of an outcome. -/
def Status.code : Status → BitVec 8
  | .ok => 0x00
  | .badCommand => 0x01
  | .badTable => 0x02
  | .badIndex => 0x03
  | .badField => 0x04
  | .badValue => 0x05
  | .readOnly => 0x06
  | .stageBusy => 0x07
  | .wrongState => 0x08
  | .notRoot => 0x09
  | .cursorEnd => 0x0A
  | .busy => 0x0B
  | .degraded => 0x0C
  | .breakOpen => 0x0D
  | .empty => 0x0E
  | .countEnd => 0x0F

/-- The status as the controller sends it (R164). -/
def noAnswer : BitVec 8 := 0xFF

/-- The table of a table code. -/
def TableName.ofCode : Nat → Option TableName
  | 0x00 => some .trackLive
  | 0x01 => some .trackStaged
  | 0x02 => some .laneLive
  | 0x03 => some .laneStaged
  | 0x04 => some .cellLive
  | 0x05 => some .cellStaged
  | 0x06 => some .headerLive
  | 0x07 => some .headerStaged
  | 0x08 => some .event
  | 0x09 => some .source
  | 0x0A => some .gate
  | 0x0B => some .mask
  | 0x0C => some .part
  | 0x0D => some .root
  | 0x0E => some .haltRecord
  | 0x0F => some .notice
  | _ => none

/-- The code of a table. -/
def TableName.code : TableName → Nat
  | .trackLive => 0x00
  | .trackStaged => 0x01
  | .laneLive => 0x02
  | .laneStaged => 0x03
  | .cellLive => 0x04
  | .cellStaged => 0x05
  | .headerLive => 0x06
  | .headerStaged => 0x07
  | .event => 0x08
  | .source => 0x09
  | .gate => 0x0A
  | .mask => 0x0B
  | .part => 0x0C
  | .root => 0x0D
  | .haltRecord => 0x0E
  | .notice => 0x0F

/-- The size of a table. -/
def TableName.size : TableName → Nat
  | .trackLive | .trackStaged => 24
  | .laneLive | .laneStaged | .event => 32
  | .cellLive | .cellStaged => 16
  | .source => 36
  | .haltRecord => 9
  | .headerLive | .headerStaged | .gate | .mask | .part | .root | .notice => 1

/-- The four staged tables (R150, R152). -/
def TableName.staged : TableName → Bool
  | .trackStaged | .laneStaged | .cellStaged | .headerStaged => true
  | .trackLive | .laneLive | .cellLive | .headerLive | .event | .source | .gate | .mask | .part | .root | .haltRecord
  | .notice => false

/-- The tables on which any command is root-only (R164). -/
def TableName.rootOnly : TableName → Bool
  | .root | .haltRecord | .notice => true
  | .trackLive | .trackStaged | .laneLive | .laneStaged | .cellLive | .cellStaged | .headerLive | .headerStaged | .event
  | .source | .gate | .mask | .part => false

/-- The field numbers a table defines (R173, R174, R175). -/
def TableName.defines : TableName → Nat → Bool
  | .trackLive, f => f ≤ 10 || (16 ≤ f && f ≤ 20)
  | .trackStaged, f => f ≤ 10
  | .laneLive, f => f ≤ 2 || (16 ≤ f && f ≤ 17)
  | .laneStaged, f => f ≤ 2
  | .cellLive, f => f ≤ 19
  | .cellStaged, f => f ≤ 15
  | .headerLive, f | .headerStaged, f => f ≤ 4
  | .event, f => f ≤ 18
  | .source, f => f ≤ 2
  | .gate, f | .mask, f => f == 0
  | .part, f => f ≤ 33
  | .root, f => f ≤ 28
  | .haltRecord, f | .notice, f => f ≤ 9

/-- The writable fields among those defined (R97, R172 to R174). -/
def TableName.writes : TableName → (index field : Nat) → Bool
  | .trackStaged, _, _ | .laneStaged, _, _ | .cellStaged, _, _ | .headerStaged, _, _ | .gate, _, _ | .mask, _, _ => true
  | .event, _, f => f ≤ 15
  | .source, i, f => i != 33 && i != 35 && (f != 2 || 32 ≤ i)
  | .trackLive, _, _ | .laneLive, _, _ | .cellLive, _, _ | .headerLive, _, _ | .part, _, _ | .root, _, _
  | .haltRecord, _, _ | .notice, _, _ => false

/-- The two writable bit words (R168). -/
def TableName.bitWord (t : TableName) (field : Nat) : Bool :=
  (t == .gate && field == 0) || (t == .cellStaged && field == 3)

/-- The word fields that are read-only (R168): the flag words of PART and ROOT, the pending words of PART, the truth-table word of
a live cell and the history word of a live lane (log entry 11). -/
def TableName.readOnlyWord : TableName → Nat → Bool
  | .part, f => f == 13 || f == 20 || f == 21
  | .root, f => f == 14
  | .cellLive, f => f == 3
  | .laneLive, f => f == 17
  | .trackLive, _ | .trackStaged, _ | .laneStaged, _ | .cellStaged, _ | .headerLive, _ | .headerStaged, _ | .event, _
  | .source, _ | .gate, _ | .mask, _ | .haltRecord, _ | .notice, _ => false

/-! ### Codes of choices (R172 to R175) -/

/-- The low part of a 48-bit value (R166). -/
def lowPart (n : Nat) : Nat := n % 2 ^ 32

/-- The high part of a 48-bit value (R166). -/
def highPart (n : Nat) : Nat := n / 2 ^ 32

/-- Track mode codes (R173). -/
def TrackMode.code : TrackMode → Nat
  | .off => 0
  | .free => 1
  | .follow => 2

/-- Gate source codes (R173). -/
def GateSource.code : GateSource → Nat
  | .none => 0
  | .flag g => g.val + 1
  | .cell c => c.val + 9

/-- Gate polarity codes (R173). -/
def GatePolarity.code : GatePolarity → Nat
  | .openHigh => 0
  | .openLow => 1

/-- Gate style codes (R173). -/
def GateStyle.code : GateStyle → Nat
  | .clean => 0
  | .hard => 1

/-- Codes of a last-step edge or change (R173). -/
def Change.code : Change → Nat
  | .noChange => 0
  | .rise => 1
  | .fall => 2

/-- Lane source codes (R173). -/
def LaneSource.code : LaneSource → Nat
  | .track t => t.val
  | .parity => 24
  | .low => 25

/-- Cell mode codes (R173). -/
def CellMode.code : CellMode → Nat
  | .plain => 0
  | .filter => 1
  | .stretch => 2
  | .count => 3
  | .settle => 4
  | .rate => 5

/-- Cell edge codes (R173). -/
def CellEdge.code : CellEdge → Nat
  | .rise => 0
  | .fall => 1
  | .both => 2

/-- Event type codes (R174). -/
def EventType.code : EventType → Nat
  | .compare => 0
  | .capture => 1

/-- Event base codes (R174). -/
def EventBase.code : EventBase → Nat
  | .step => 0
  | .edges => 1

/-- Capture edge codes (R174). -/
def CaptureEdge.code : CaptureEdge → Nat
  | .rise => 0
  | .fall => 1

/-- Gate op codes (R174). -/
def GateOp.code : GateOp → Nat
  | .none => 0
  | .set => 1
  | .clear => 2
  | .toggle => 3

/-- Request kind codes of EVENT and SOURCE (R174): not those of a slot. -/
def kindCode : Option Kind → Nat
  | none => 0
  | some .mark => 1
  | some .pause => 2
  | some .brk => 3

/-- Request when codes (R174). -/
def RequestWhen.code : RequestWhen → Nat
  | .each => 0
  | .last => 1

/-- Run state codes (R175). -/
def RunState.code : RunState → Nat
  | .cold => 0
  | .idle => 1
  | .ready => 2
  | .run => 3
  | .halting => 4
  | .halted => 5
  | .broken => 6
  | .stranded => 7

/-- Role codes (R175). -/
def Role.code : Role → Nat
  | .follower => 0
  | .root => 1

/-- Reset cause codes (R175). -/
def ResetCause.code : ResetCause → Nat
  | .power => 0
  | .pin => 1

/-! ### Reading a field (R173 to R175) -/

/-- A configuration field of a track record. -/
def TrackRecord.field (r : TrackRecord) : Nat → Nat
  | 0 => r.mode.code
  | 1 => r.parent.val
  | 2 => r.increment
  | 3 => r.high
  | 4 => r.low
  | 5 => r.initialLevel.toNat
  | 6 => r.phaseOffset
  | 7 => r.gateSource.code
  | 8 => r.gatePolarity.code
  | 9 => r.gateStyle.code
  | 10 => r.restartOnActivation.toNat
  | _ => 0

/-- A field of TRACK_LIVE: configuration, or running state from 16 on. -/
def TrackRun.field (t : TrackRun) (r : TrackRecord) : Nat → Nat
  | 16 => t.phase
  | 17 => t.level.toNat
  | 18 => t.edges
  | 19 => t.lastEdge.code
  | 20 => t.closePending.toNat
  | f => r.field f

/-- A field of a lane record. -/
def LaneRecord.field (r : LaneRecord) : Nat → Nat
  | 0 => r.source.code
  | 1 => r.invert.toNat
  | 2 => r.retard.val
  | _ => 0

/-- A field of LANE_LIVE. -/
def LaneRun.field (l : LaneRun) (r : LaneRecord) : Nat → Nat
  | 16 => l.output.toNat
  | 17 => wordOf l.history
  | f => r.field f

/-- A field of a cell configuration; fields 8 to 15 are truth-table entries 0 to 7. -/
def CellConfig.field (c : CellConfig) : Nat → Nat
  | 0 => c.selector0.val
  | 1 => c.selector1.val
  | 2 => c.selector2.val
  | 3 => wordOf c.truth
  | 4 => c.mode.code
  | 5 => c.edge.code
  | 6 => c.length
  | 7 => c.initialOutput.toNat
  | f => ((c.truth[f - 8]?).getD false).toNat

/-- A field of CELL_LIVE. -/
def CellRun.field (t : CellRun) (c : CellConfig) : Nat → Nat
  | 16 => t.value.toNat
  | 17 => t.timer
  | 18 => t.output.toNat
  | 19 => t.lastChange.code
  | f => c.field f

/-- A field of a header. -/
def Header.field (h : Header) : Nat → Nat
  | 0 => h.pace
  | 1 => h.spacing
  | 2 => h.lead
  | 3 => h.beatTimeout
  | 4 => h.returnTimeout
  | _ => 0

/-- A field of an event entry (R174). -/
def EventEntry.field (e : EventEntry) : Nat → Nat
  | 0 => e.enabled.toNat
  | 1 => e.type.code
  | 2 => e.base.code
  | 3 => e.baseTrack.val
  | 4 => lowPart e.value
  | 5 => highPart e.value
  | 6 => e.period
  | 7 => e.captureCell.val
  | 8 => e.captureEdge.code
  | 9 => e.keepFirst.toNat
  | 10 => e.limit
  | 11 => e.gateOp.code
  | 12 => e.gateFlag.val
  | 13 => match e.marker with
    | none => 0
    | some m => m.val + 1
  | 14 => kindCode e.requestKind
  | 15 => e.requestWhen.code
  | 16 => e.remaining
  | 17 => e.hits
  | 18 => e.done.toNat
  | _ => 0

/-- A field of the SOURCE table (R97, R174). -/
def State.sourceField (s : State) (source : Fin 36) : Nat → Nat
  | 0 => (s.requests.settings[source]).enable.toNat
  | 1 => (s.requests.settings[source]).level.val
  | 2 => kindCode (s.sourceKind source)
  | _ => 0

/-- The pending activation, or stage 0 at step 0 while it is absent (log entry 28). -/
def PlanStore.pendingOrZero (p : PlanStore) : Activation := p.pendingActivation.getD { stage := 0, step := 0 }

/-- A field of the PART table (R175). The low and high parts of F and of the pending activation read 0 while the item is absent (log
entry 28). -/
def State.partField (s : State) : Nat → Nat
  | 0 => s.seq.runState.code
  | 1 => s.seq.role.code
  | 2 => match s.handler.position with
    | none => 63
    | some p => p.val
  | 3 => lowPart s.seq.step
  | 4 => highPart s.seq.step
  | 5 => lowPart s.seq.grant
  | 6 => highPart s.seq.grant
  | 7 => s.seq.haltStep.isSome.toNat
  | 8 => lowPart (s.seq.haltStep.getD 0)
  | 9 => highPart (s.seq.haltStep.getD 0)
  | 10 => s.seq.haltKind.code
  | 11 => s.seq.originNumber.getD 256
  | 12 => s.seq.resetCause.code
  | 13 => s.partFlags
  | 14 => s.seq.underrunCount
  | 15 => s.seq.silenceCount
  | 16 => s.seq.referenceLossCount
  | 17 => s.handler.checkErrors
  | 18 => s.handler.unknowns
  | 19 => s.handler.outputDrops
  | 20 => s.requests.pendingWord 0 32
  | 21 => s.requests.pendingWord 32 4
  | 22 => s.requests.droppedCount
  | 23 => s.requests.mergedCount
  | 24 => s.requests.cancelCount
  | 25 => s.requests.placedCount
  | 26 => s.plan.liveStage
  | 27 => s.plan.pendingActivation.isSome.toNat * 256 + s.plan.pendingOrZero.stage
  | 28 => lowPart s.plan.pendingOrZero.step
  | 29 => highPart s.plan.pendingOrZero.step
  | 30 => s.plan.clampsAtLast
  | 31 => s.plan.lateCount
  | 32 => s.cursor.table.code
  | 33 => s.cursor.index
  | _ => 0

/-- A field of the ROOT table (R175). The low and high parts of T, and the stage and step of the announced activation, read 0 while the
item is absent (log entry 28). -/
def State.rootField (s : State) : Nat → Nat
  | 0 => lowPart s.root.rootGrant
  | 1 => highPart s.root.rootGrant
  | 2 => s.root.target.isSome.toNat
  | 3 => lowPart (s.root.target.getD 0)
  | 4 => highPart (s.root.target.getD 0)
  | 5 => s.root.nextSequence
  | 6 => s.root.emissionDue.toNat
  | 7 => s.root.outstanding.length
  | 8 => match s.root.outstanding with
    | [] => 0
    | e :: _ => e.sequence
  | 9 => match s.root.outstanding with
    | [] => 0
    | e :: _ => lowPart e.grant
  | 10 => match s.root.outstanding with
    | [] => 0
    | e :: _ => highPart e.grant
  | 11 => min s.oldestAge 65535
  | 12 => s.root.announcedOrigin.getD 256
  | 13 => s.root.originOutstanding.toNat
  | 14 => s.rootFlags
  | 15 => s.root.largestRoundTrip
  | 16 => s.root.lostCount
  | 17 => s.root.foreignCount
  | 18 => s.root.deferredCount
  | 19 => s.root.noticeDropCount
  | 20 => s.handler.ringSize.getD 0
  | 21 => s.handler.excessCount
  | 22 => s.plan.announced.isSome.toNat
  | 23 => s.plan.announcement.stage
  | 24 => lowPart s.plan.announcement.step
  | 25 => highPart s.plan.announcement.step
  | 26 => s.plan.nextStage
  | 27 => s.root.notices.length
  | 28 => s.handler.enumerationTimer
  | _ => 0

/-- A field of HALT_RECORD at index 0 (R175). The low and high parts of F and of the decision step read 0 while the step is absent (log
entry 28). -/
def HaltRecord.field (h : HaltRecord) : Nat → Nat
  | 0 => h.isOpen.toNat
  | 1 => h.kind.code
  | 2 => h.haltStep.isSome.toNat
  | 3 => lowPart (h.haltStep.getD 0)
  | 4 => highPart (h.haltStep.getD 0)
  | 5 => h.decisionStep.isSome.toNat
  | 6 => lowPart (h.decisionStep.getD 0)
  | 7 => highPart (h.decisionStep.getD 0)
  | 8 => h.entries.length
  | 9 => h.overflowCount
  | _ => 0

/-- A field of a logged request: HALT_RECORD at index 1 to 8 and NOTICE (R175). -/
def LoggedRequest.field (n : LoggedRequest) : Nat → Nat
  | 0 => n.request.position
  | 1 => n.request.source
  | 2 => n.request.kind.slotCode
  | 3 => n.request.level
  | 4 => lowPart n.request.causeStep
  | 5 => highPart n.request.causeStep
  | 6 => n.request.merged
  | 7 => lowPart n.arrivalStep
  | 8 => highPart n.arrivalStep
  | 9 => n.late.toNat
  | _ => 0

/-- The field of a logged request that may be absent. -/
def loggedField (n : Option LoggedRequest) (field : Nat) : Nat :=
  match n with
  | none => 0
  | some n => n.field field

/-- The value of a field a table defines, at an index below its size. -/
def State.fieldValue (s : State) (t : TableName) (index field : Nat) : Nat :=
  match t with
  | .trackLive => if h : index < 24 then (s.tracks[index]).field s.plan.live.tracks[index] field else 0
  | .trackStaged => if h : index < 24 then (s.plan.staged.tracks[index]).field field else 0
  | .laneLive => if h : index < 32 then (s.lanes[index]).field s.plan.live.lanes[index] field else 0
  | .laneStaged => if h : index < 32 then (s.plan.staged.lanes[index]).field field else 0
  | .cellLive => if h : index < 16 then (s.cells[index]).field s.plan.live.cells[index] field else 0
  | .cellStaged => if h : index < 16 then (s.plan.staged.cells[index]).field field else 0
  | .headerLive => s.plan.live.header.field field
  | .headerStaged => s.plan.staged.header.field field
  | .event => if h : index < 32 then (s.events.entries[index]).field field else 0
  | .source => if h : index < 36 then s.sourceField ⟨index, h⟩ field else 0
  | .gate => wordOf s.events.gates
  | .mask => s.requests.mask.val
  | .part => s.partField field
  | .root => s.rootField field
  | .haltRecord =>
    if index = 0 then s.root.haltRecord.field field else loggedField s.root.haltRecord.entries[index - 1]? field
  | .notice => loggedField s.root.lastNotice field

/-! ### Writing a field: absent when the value is outside the field's range -/

/-- A choice of two. -/
def choose {α : Type} (v : Nat) (zero one : α) : Option α :=
  match v with
  | 0 => some zero
  | 1 => some one
  | _ => none

/-- A value within an inclusive range. -/
def within (low high v : Nat) : Option Nat := if low ≤ v ∧ v ≤ high then some v else none

/-- An index below `n`. -/
def indexBelow (n v : Nat) : Option (Fin n) := if h : v < n then some ⟨v, h⟩ else none

/-- The track mode of a code. -/
def TrackMode.ofCode : Nat → Option TrackMode
  | 0 => some .off
  | 1 => some .free
  | 2 => some .follow
  | _ => none

/-- The gate source of a code. -/
def GateSource.ofCode (v : Nat) : Option GateSource :=
  if v = 0 then some .none
  else if h : v - 1 < 8 then some (.flag ⟨v - 1, h⟩)
  else if h : v - 9 < 16 then some (.cell ⟨v - 9, h⟩)
  else Option.none

/-- The lane source of a code. -/
def LaneSource.ofCode (v : Nat) : Option LaneSource :=
  if h : v < 24 then some (.track ⟨v, h⟩) else if v = 24 then some .parity else if v = 25 then some .low else none

/-- The cell mode of a code. -/
def CellMode.ofCode : Nat → Option CellMode
  | 0 => some .plain
  | 1 => some .filter
  | 2 => some .stretch
  | 3 => some .count
  | 4 => some .settle
  | 5 => some .rate
  | _ => none

/-- The cell edge of a code. -/
def CellEdge.ofCode : Nat → Option CellEdge
  | 0 => some .rise
  | 1 => some .fall
  | 2 => some .both
  | _ => none

/-- The gate op of a code. -/
def GateOp.ofCode : Nat → Option GateOp
  | 0 => some .none
  | 1 => some .set
  | 2 => some .clear
  | 3 => some .toggle
  | _ => Option.none

/-- The request kind of an EVENT or SOURCE code; the outer option is the range check. -/
def kindOfCode : Nat → Option (Option Kind)
  | 0 => some none
  | 1 => some (some .mark)
  | 2 => some (some .pause)
  | 3 => some (some .brk)
  | _ => none

/-- The marker of a code; the outer option is the range check. -/
def markerOfCode (v : Nat) : Option (Option (Fin 8)) :=
  if v = 0 then some none else (indexBelow 8 (v - 1)).map some

/-- A write of a track record's field (R24, R173). -/
def TrackRecord.write (r : TrackRecord) (field v : Nat) : Option TrackRecord :=
  match field with
  | 0 => (TrackMode.ofCode v).map fun x => { r with mode := x }
  | 1 => (indexBelow 24 v).map fun x => { r with parent := x }
  | 2 => (within 1 4095 v).map fun x => { r with increment := x }
  | 3 => (within 1 65535 v).map fun x => { r with high := x }
  | 4 => (within 1 65535 v).map fun x => { r with low := x }
  | 5 => (choose v false true).map fun x => { r with initialLevel := x }
  | 6 => (within 0 65535 v).map fun x => { r with phaseOffset := x }
  | 7 => (GateSource.ofCode v).map fun x => { r with gateSource := x }
  | 8 => (choose v GatePolarity.openHigh GatePolarity.openLow).map fun x => { r with gatePolarity := x }
  | 9 => (choose v GateStyle.clean GateStyle.hard).map fun x => { r with gateStyle := x }
  | 10 => (choose v false true).map fun x => { r with restartOnActivation := x }
  | _ => none

/-- A write of a lane record's field (R48, R173). -/
def LaneRecord.write (r : LaneRecord) (field v : Nat) : Option LaneRecord :=
  match field with
  | 0 => (LaneSource.ofCode v).map fun x => { r with source := x }
  | 1 => (choose v false true).map fun x => { r with invert := x }
  | 2 => (indexBelow 16 v).map fun x => { r with retard := x }
  | _ => none

/-- A write of a cell configuration's field (R58, R173): the truth table as one word, or entry by entry. -/
def CellConfig.write (c : CellConfig) (field v : Nat) : Option CellConfig :=
  match field with
  | 0 => (indexBelow 64 v).map fun x => { c with selector0 := x }
  | 1 => (indexBelow 64 v).map fun x => { c with selector1 := x }
  | 2 => (indexBelow 64 v).map fun x => { c with selector2 := x }
  | 3 => (within 0 255 v).map fun x => { c with truth := levelsOf 8 x }
  | 4 => (CellMode.ofCode v).map fun x => { c with mode := x }
  | 5 => (CellEdge.ofCode v).map fun x => { c with edge := x }
  | 6 => (within 1 4095 v).map fun x => { c with length := x }
  | 7 => (choose v false true).map fun x => { c with initialOutput := x }
  | f => if h : f - 8 < 8 then (choose v false true).map fun x => { c with truth := c.truth.set (f - 8) x } else none

/-- A write of a header's field (R150, R173). -/
def Header.write (h : Header) (field v : Nat) : Option Header :=
  match field with
  | 0 => (within 4 65535 v).map fun x => { h with pace := x }
  | 1 => (within 1 64 v).map fun x => { h with spacing := x }
  | 2 => (within 1 4095 v).map fun x => { h with lead := x }
  | 3 => (within 1 65535 v).map fun x => { h with beatTimeout := x }
  | 4 => (within 1 65535 v).map fun x => { h with returnTimeout := x }
  | _ => none

/-- A write of an event entry's field (R77, R78, R174): the limit reloads remaining and clears done. -/
def EventEntry.write (e : EventEntry) (field v : Nat) : Option EventEntry :=
  match field with
  | 0 => (choose v false true).map fun x => { e with enabled := x }
  | 1 => (choose v EventType.compare EventType.capture).map fun x => { e with type := x }
  | 2 => (choose v EventBase.step EventBase.edges).map fun x => { e with base := x }
  | 3 => (indexBelow 24 v).map fun x => { e with baseTrack := x }
  | 4 => (within 0 (2 ^ 32 - 1) v).map fun x => { e with value := highPart e.value * 2 ^ 32 + x }
  | 5 => (within 0 65535 v).map fun x => { e with value := x * 2 ^ 32 + lowPart e.value }
  | 6 => (within 0 (2 ^ 32 - 1) v).map fun x => { e with period := x }
  | 7 => (indexBelow 16 v).map fun x => { e with captureCell := x }
  | 8 => (choose v CaptureEdge.rise CaptureEdge.fall).map fun x => { e with captureEdge := x }
  | 9 => (choose v false true).map fun x => { e with keepFirst := x }
  | 10 => (within 0 65535 v).map fun x => { e with limit := x, remaining := x, done := false }
  | 11 => (GateOp.ofCode v).map fun x => { e with gateOp := x }
  | 12 => (indexBelow 8 v).map fun x => { e with gateFlag := x }
  | 13 => (markerOfCode v).map fun x => { e with marker := x }
  | 14 => (kindOfCode v).map fun x => { e with requestKind := x }
  | 15 => (choose v RequestWhen.each RequestWhen.last).map fun x => { e with requestWhen := x }
  | _ => none

/-- A write of a source's field (R97, R102). -/
def RequestUnit.write (u : RequestUnit) (source : Fin 36) (field v : Nat) : Option RequestUnit :=
  match field with
  | 0 => (choose v false true).map fun x => u.writeEnable source x
  | 1 => (indexBelow 4 v).map fun x => u.writeLevel source x
  | 2 => (kindOfCode v).map fun x => if source = 32 then { u with underrunKind := x } else { u with clampKind := x }
  | _ => none

/-- Replace the staged bank. -/
def State.setStaged (s : State) (p : Plan) : State := s.setPlan { s.plan with staged := p }

/-- A write to a field that the table writes, at an index below its size. -/
def State.writeField (s : State) (t : TableName) (index field v : Nat) : Option State :=
  match t with
  | .trackStaged =>
    if h : index < 24 then
      ((s.plan.staged.tracks[index]).write field v).map fun r =>
        s.setStaged { s.plan.staged with tracks := s.plan.staged.tracks.set index r }
    else none
  | .laneStaged =>
    if h : index < 32 then
      ((s.plan.staged.lanes[index]).write field v).map fun r =>
        s.setStaged { s.plan.staged with lanes := s.plan.staged.lanes.set index r }
    else none
  | .cellStaged =>
    if h : index < 16 then
      ((s.plan.staged.cells[index]).write field v).map fun c =>
        s.setStaged { s.plan.staged with cells := s.plan.staged.cells.set index c }
    else none
  | .headerStaged => (s.plan.staged.header.write field v).map fun h => s.setStaged { s.plan.staged with header := h }
  | .event =>
    if h : index < 32 then
      ((s.events.entries[index]).write field v).map fun e =>
        s.setEvents { s.events with entries := s.events.entries.set index e }
    else none
  | .source =>
    if h : index < 36 then (s.requests.write ⟨index, h⟩ field v).map fun u => s.setRequests u else none
  | .gate => (within 0 255 v).map fun x => s.setEvents { s.events with gates := levelsOf 8 x }
  | .mask => (indexBelow 4 v).map fun x => s.setRequests (s.requests.writeMask x)
  | .trackLive | .laneLive | .cellLive | .headerLive | .part | .root | .haltRecord | .notice => none

/-- The levels of a writable bit word (R168), at an index below the table's size. -/
def State.bitLevels (s : State) (t : TableName) (index : Nat) : Vector Bool 8 :=
  match t with
  | .cellStaged => if h : index < 16 then (s.plan.staged.cells[index]).truth else Vector.replicate 8 false
  | .trackLive | .trackStaged | .laneLive | .laneStaged | .cellLive | .headerLive | .headerStaged | .event | .source
  | .gate | .mask | .part | .root | .haltRecord | .notice => s.events.gates

/-- Store the levels of a writable bit word (R168). -/
def State.setBitLevels (s : State) (t : TableName) (index : Nat) (levels : Vector Bool 8) : State :=
  match t with
  | .cellStaged =>
    if h : index < 16 then
      s.setStaged
        { s.plan.staged with
          cells := s.plan.staged.cells.set index { s.plan.staged.cells[index] with truth := levels } }
    else s
  | .trackLive | .trackStaged | .laneLive | .laneStaged | .cellLive | .headerLive | .headerStaged | .event | .source
  | .gate | .mask | .part | .root | .haltRecord | .notice => s.setEvents { s.events with gates := levels }

end Sys2Proof.Machine
end

