-- ==== Sys2Proof/Machine/Service.lean ====
section
/-! DEFINITION. The service engine: the taking and answering of a frame (R163, R165), the order of tests (R164), and every command
(R166 to R171; the root commands R125, R143 to R148 and R153). -/

namespace Sys2Proof.Machine

/-- The outcome of a command: its status, its reply value, and the part after it. -/
structure Answer where
  status : Status
  value : Nat
  state : State
deriving DecidableEq, Repr

/-- A refused command changes no state and answers with reply value 0 (R163). -/
def State.refuse (s : State) (status : Status) : Answer := { status, value := 0, state := s }

/-- An accepted command. -/
def State.accept (s : State) (value : Nat) : Answer := { status := .ok, value, state := s }

/-- The part is staging-locked (R151). -/
def State.stagingLocked (s : State) : Bool := s.plan.pendingActivation.isSome

/-! ### Commands on tables (R166, R167, R168) -/

/-- READ at a table, index and field (R164, R166). A HALT_RECORD index above the entry count answers BAD_INDEX, and NOTICE with no
last taken notice answers EMPTY. -/
def State.readAt (s : State) (t : TableName) (index field : Nat) : Answer :=
  if t.size ≤ index ∨ (t = .haltRecord ∧ s.root.haltRecord.entries.length < index) then s.refuse .badIndex
  else if t.defines field = false then s.refuse .badField
  else if t = .notice ∧ s.root.lastNotice = none then s.refuse .empty
  else s.accept (s.fieldValue t index field)

/-- WRITE at a table, index and field (R164, R166). -/
def State.writeAt (s : State) (t : TableName) (index field v : Nat) : Answer :=
  if t.size ≤ index then s.refuse .badIndex
  else if t.defines field = false then s.refuse .badField
  else if t.writes index field = false then s.refuse .readOnly
  else if t.staged ∧ s.stagingLocked then s.refuse .stageBusy
  else
    match s.writeField t index field v with
    | none => s.refuse .badValue
    | some after => after.accept 0

/-- A bit command at a table, index and field (R164, R168): `change` gives the new levels, `reply` the reply value. -/
def State.bitsAt (s : State) (t : TableName) (index field v : Nat) (change : Vector Bool 8 → Nat → Vector Bool 8)
    (reply : Vector Bool 8 → Nat) : Answer :=
  if t.size ≤ index then s.refuse .badIndex
  else if t.bitWord field then
    if t.staged ∧ s.stagingLocked then s.refuse .stageBusy
    else if 255 < v then s.refuse .badValue
    else
      let levels := s.bitLevels t index
      (s.setBitLevels t index (change levels v)).accept (reply levels)
  else if t.readOnlyWord field then s.refuse .readOnly
  else s.refuse .badField

/-- A command on the frame's table: an unassigned table code is refused (R164). -/
def State.onTable (s : State) (f : ServiceFrame) (act : TableName → Answer) : Answer :=
  match TableName.ofCode f.table.toNat with
  | none => s.refuse .badTable
  | some t => act t

/-- READ (R166). -/
def State.serveRead (s : State) (f : ServiceFrame) : Answer :=
  s.onTable f fun t => s.readAt t f.index.toNat f.field.toNat

/-- WRITE (R166). -/
def State.serveWrite (s : State) (f : ServiceFrame) : Answer :=
  s.onTable f fun t => s.writeAt t f.index.toNat f.field.toNat f.value.toNat

/-- CURSOR (R167): the index may equal the table's size. -/
def State.serveCursor (s : State) (f : ServiceFrame) : Answer :=
  s.onTable f fun t =>
    if t.size < f.index.toNat then s.refuse .badIndex
    else (s.setCursor { table := t, index := f.index.toNat }).accept 0

/-- The cursor moves past the effective index when the command answers OK, and stays otherwise (R167). -/
def Answer.advancing (a : Answer) (effective : Nat) : Answer :=
  if a.status = .ok then { a with state := a.state.setCursor { a.state.cursor with index := effective + 1 } } else a

/-- READ_NEXT and WRITE_NEXT (R167): refused at the end of the table, else `act` at the effective index. -/
def State.atCursor (s : State) (f : ServiceFrame) (act : TableName → Nat → Answer) : Answer :=
  if s.cursor.table.size ≤ s.cursor.index then s.refuse .cursorEnd
  else
    let effective := s.cursor.index + f.offset.toNat
    (act s.cursor.table effective).advancing effective

/-- READ_NEXT (R167). -/
def State.serveReadNext (s : State) (f : ServiceFrame) : Answer :=
  s.atCursor f fun t index => s.readAt t index f.field.toNat

/-- WRITE_NEXT (R167). -/
def State.serveWriteNext (s : State) (f : ServiceFrame) : Answer :=
  s.atCursor f fun t index => s.writeAt t index f.field.toNat f.value.toNat

/-- SET_BITS (R168). -/
def State.serveSetBits (s : State) (f : ServiceFrame) : Answer :=
  s.onTable f fun t => s.bitsAt t f.index.toNat f.field.toNat f.value.toNat setBitsOf fun _ => 0

/-- CLEAR_BITS (R168). -/
def State.serveClearBits (s : State) (f : ServiceFrame) : Answer :=
  s.onTable f fun t => s.bitsAt t f.index.toNat f.field.toNat f.value.toNat clearBitsOf fun _ => 0

/-- TEST_SET (R168): answers the word as it stood, then sets the bits. -/
def State.serveTestSet (s : State) (f : ServiceFrame) : Answer :=
  s.onTable f fun t => s.bitsAt t f.index.toNat f.field.toNat f.value.toNat setBitsOf wordOf

/-- COPY_LIVE (R150, R169). -/
def State.serveCopyLive (s : State) : Answer :=
  if s.stagingLocked then s.refuse .stageBusy else (s.setStaged s.plan.live).accept 0

/-! ### TAKE_NOTICE and RESET_PART (R143, R169, R171) -/

/-- The reply value that summarises a notice taken (R169), with the entries left in the queue. -/
def LoggedRequest.summary (n : LoggedRequest) (left : Nat) : Nat :=
  n.request.position + n.request.source * 2 ^ 6 + n.request.kind.slotCode * 2 ^ 12 + n.request.level * 2 ^ 14 +
    n.request.merged * 2 ^ 16 + n.late.toNat * 2 ^ 20 + left * 2 ^ 24

/-- TAKE_NOTICE (R143, R169). -/
def State.serveTakeNotice (s : State) : Answer :=
  match s.root.notices with
  | [] => s.refuse .empty
  | n :: rest => (s.setRoot { s.root with notices := rest, lastNotice := some n }).accept (n.summary rest.length)

/-- RESET_PART (R171). -/
def State.serveResetPart (s : State) : Answer := s.resetPart.accept 0

/-! ### Root commands (R125, R144 to R148, R153) -/

/-- What refuses RUN and RUN_FOR in READY and HALTED, in the order R144 gives. -/
def State.runRefusal (s : State) : Option Status :=
  if s.root.originOutstanding then some .busy
  else if s.root.ringUnsynchronised then some .degraded
  else if s.seq.step = maxStep then some .countEnd
  else none

/-- A run started in READY or HALTED, unless it is refused (R144, R145). -/
def State.tryRun (s : State) (target : Option Nat) (reply : Nat) : Answer :=
  match s.runRefusal with
  | some status => s.refuse status
  | none => (s.startRun target).accept reply

/-- RUN (R144, R145). -/
def State.serveRun (s : State) : Answer :=
  match s.seq.runState with
  | .ready | .halted => s.tryRun none 0
  | .broken => s.refuse .breakOpen
  | .cold | .idle | .run | .halting | .stranded => s.refuse .wrongState

/-- The target RUN_FOR sets in READY and HALTED (R146). -/
def State.targetFromHere (s : State) (n : Nat) : Nat := min (s.seq.step + n) maxStep

/-- The target RUN_FOR sets in RUN (R146). -/
def State.targetInRun (s : State) (n : Nat) : Nat := min (max s.root.rootGrant (s.seq.step + n)) maxStep

/-- RUN_FOR (R144, R146): a count of 0 is refused before the state is tested (R164). -/
def State.serveRunFor (s : State) (f : ServiceFrame) : Answer :=
  let n := f.value.toNat
  if n = 0 then s.refuse .badValue
  else
    match s.seq.runState with
    | .ready | .halted => s.tryRun (some (s.targetFromHere n)) (s.targetFromHere n - s.seq.step)
    | .run => (s.setRoot { s.root with target := some (s.targetInRun n) }).accept (s.targetInRun n - s.seq.step)
    | .broken => s.refuse .breakOpen
    | .cold | .idle | .halting | .stranded => s.refuse .wrongState

/-- PAUSE (R144, R147): in RUN the halt is decided with root-local cause CONTROL. -/
def State.servePause (s : State) : Answer :=
  match s.seq.runState with
  | .run => (s.processRecord (localCause 40 .pause s.seq.step)).accept 0
  | .halting | .halted | .broken => s.accept 0
  | .cold | .idle | .ready | .stranded => s.refuse .wrongState

/-- The halt made a PAUSE by CLEAR_BREAK (R147). -/
def State.clearBreak (s : State) : State :=
  (s.setRoot { s.root with haltRecord := { s.root.haltRecord with kind := .pause } }).setSeq
    { s.seq with haltKind := .pause, runState := .halted }

/-- CLEAR_BREAK (R144, R147). -/
def State.serveClearBreak (s : State) : Answer :=
  match s.seq.runState with
  | .broken => s.clearBreak.accept 0
  | .cold | .idle | .ready | .run | .halting | .halted | .stranded => s.refuse .wrongState

/-- ORIGIN (R144, R148). -/
def State.serveOrigin (s : State) : Answer :=
  match s.seq.runState with
  | .ready | .halted | .broken | .stranded =>
    if s.root.originOutstanding then s.refuse .busy else s.announceOrigin.accept 0
  | .cold | .idle | .run | .halting => s.refuse .wrongState

/-- The activation SWAP announces (R153): the next stage, at the step after every grant sent. -/
def State.swapActivation (s : State) : Activation :=
  { stage := (s.plan.nextStage + 1) % 256, step := s.root.rootGrant + 1 }

/-- SWAP (R153). -/
def State.serveSwap (s : State) : Answer :=
  if s.seq.runState.numbered = false then s.refuse .wrongState
  else if s.plan.announced.isSome then s.refuse .stageBusy
  else if s.root.rootGrant = maxStep then s.refuse .countEnd
  else
    let a := s.swapActivation
    (s.setPlan { s.plan with nextStage := a.stage, announced := some a, pendingActivation := some a }).accept a.stage

/-- The ENUM frame the root emits (R125). -/
def firstEnumFrame : EnumFrame := { reserved := 0, nextPosition := 1, excessCount := 0 }

/-- ENUMERATE (R125). -/
def State.serveEnumerate (s : State) : Answer :=
  match s.seq.runState with
  | .idle | .ready =>
    if s.handler.enumerationOutstanding then s.refuse .busy
    else
      let t := s.hand (writtenEnum firstEnumFrame)
      let t :=
        t.setHandler
          { t.handler with enumerationOutstanding := true, enumerationTimer := 0, enumerationLost := false }
      (t.setSeq { t.seq with runState := .ready }).accept 0
  | .cold | .run | .halting | .halted | .broken | .stranded => s.refuse .wrongState

/-! ### The tests before the command's own (R164) -/

/-- The assigned commands (R166). -/
inductive CommandName where
  | read | write | cursor | readNext | writeNext | setBits | clearBits | testSet | copyLive | takeNotice | resetPart
  | run | runFor | pause | clearBreak | origin | swap | enumerate
deriving DecidableEq, Repr

/-- The code of a command (R166). -/
def CommandName.code : CommandName → BitVec 8
  | .read => 0x01
  | .write => 0x02
  | .cursor => 0x03
  | .readNext => 0x04
  | .writeNext => 0x05
  | .setBits => 0x06
  | .clearBits => 0x07
  | .testSet => 0x08
  | .copyLive => 0x09
  | .takeNotice => 0x0A
  | .resetPart => 0x0B
  | .run => 0x10
  | .runFor => 0x11
  | .pause => 0x12
  | .clearBreak => 0x13
  | .origin => 0x14
  | .swap => 0x15
  | .enumerate => 0x16

/-- The command of a code. -/
def CommandName.ofCode : Nat → Option CommandName
  | 0x01 => some .read
  | 0x02 => some .write
  | 0x03 => some .cursor
  | 0x04 => some .readNext
  | 0x05 => some .writeNext
  | 0x06 => some .setBits
  | 0x07 => some .clearBits
  | 0x08 => some .testSet
  | 0x09 => some .copyLive
  | 0x0A => some .takeNotice
  | 0x0B => some .resetPart
  | 0x10 => some .run
  | 0x11 => some .runFor
  | 0x12 => some .pause
  | 0x13 => some .clearBreak
  | 0x14 => some .origin
  | 0x15 => some .swap
  | 0x16 => some .enumerate
  | _ => none

/-- The commands that may be broadcast (R165). -/
def CommandName.broadcasts : CommandName → Bool
  | .write | .cursor | .writeNext | .setBits | .clearBits | .copyLive | .resetPart => true
  | .read | .readNext | .testSet | .takeNotice | .run | .runFor | .pause | .clearBreak | .origin | .swap | .enumerate =>
    false

/-- The commands that are root-only whatever their table (R164). -/
def CommandName.rootOnly : CommandName → Bool
  | .takeNotice | .run | .runFor | .pause | .clearBreak | .origin | .swap | .enumerate => true
  | .read | .write | .cursor | .readNext | .writeNext | .setBits | .clearBits | .testSet | .copyLive | .resetPart => false

/-- The table a command acts on (R164): the frame's, or the cursor's for READ_NEXT and WRITE_NEXT. -/
def State.commandTable (s : State) (c : CommandName) (f : ServiceFrame) : Option TableName :=
  match c with
  | .read | .write | .cursor | .setBits | .clearBits | .testSet => TableName.ofCode f.table.toNat
  | .readNext | .writeNext => some s.cursor.table
  | .copyLive | .takeNotice | .resetPart | .run | .runFor | .pause | .clearBreak | .origin | .swap | .enumerate => none

/-- The command is root-only: by its name, or by its table (R164). -/
def State.needsRoot (s : State) (c : CommandName) (f : ServiceFrame) : Bool :=
  c.rootOnly ||
    match s.commandTable c f with
    | none => false
    | some t => t.rootOnly

/-- The command's own tests and effect. -/
def State.perform (s : State) (c : CommandName) (f : ServiceFrame) : Answer :=
  match c with
  | .read => s.serveRead f
  | .write => s.serveWrite f
  | .cursor => s.serveCursor f
  | .readNext => s.serveReadNext f
  | .writeNext => s.serveWriteNext f
  | .setBits => s.serveSetBits f
  | .clearBits => s.serveClearBits f
  | .testSet => s.serveTestSet f
  | .copyLive => s.serveCopyLive
  | .takeNotice => s.serveTakeNotice
  | .resetPart => s.serveResetPart
  | .run => s.serveRun
  | .runFor => s.serveRunFor f
  | .pause => s.servePause
  | .clearBreak => s.serveClearBreak
  | .origin => s.serveOrigin
  | .swap => s.serveSwap
  | .enumerate => s.serveEnumerate

/-- The outcome of a service frame at a part that takes it, tested in the order of R164. -/
def State.answer (s : State) (code : BitVec 8) (f : ServiceFrame) : Answer :=
  match CommandName.ofCode code.toNat with
  | none => s.refuse .badCommand
  | some c =>
    if f.destination = 63 ∧ c.broadcasts = false then s.refuse .badCommand
    else if s.seq.role = .follower ∧ s.needsRoot c f then s.refuse .notRoot
    else s.perform c f

/-! ### Taking and answering a frame (R120, R163, R165) -/

/-- The part takes the frame (R120): a broadcast, or one addressed to its ring position. -/
def State.addressed (s : State) (f : ServiceFrame) : Bool :=
  f.destination == 63 ||
    match s.handler.position with
    | none => false
    | some p => p.val == f.destination.toNat

/-- The reply to a frame addressed to one part (R163). -/
def Answer.replyTo (a : Answer) (f : ServiceFrame) : ServiceFrame :=
  { f with status := a.status.code, replyValue := if a.status = .ok then BitVec.ofNat 32 a.value else 0 }

/-- The count of the parts that took a broadcast, after one more has taken it (R165). What a count of FFFFFFFFh becomes is not stated:
a free value (log entry 30). -/
def raisedReply (arriving : BitVec 32) (ticks : Nat) : BitVec 32 :=
  if arriving = 0xFFFFFFFF then Config.replyPastRange ticks else arriving + 1

/-- The reply to a broadcast (R165): every part that takes the frame counts itself, and writes its status only over NO_ANSWER or
OK. -/
def Answer.replyToBroadcast (a : Answer) (f : ServiceFrame) : ServiceFrame :=
  { f with
    status := if f.status = noAnswer ∨ f.status = Status.ok.code then a.status.code else f.status
    replyValue := raisedReply (if f.status = noAnswer then 0 else f.replyValue) a.state.clock.ticks }

/-- The frame as it leaves the part that took it. -/
def Answer.written (a : Answer) (f : ServiceFrame) : ServiceFrame :=
  if f.destination = 63 then a.replyToBroadcast f else a.replyTo f

/-- A good service frame at the part (R120): taken, answered and forwarded, or passed unchanged. -/
def State.takeService (s : State) (code : BitVec 8) (f : ServiceFrame) : State :=
  if s.addressed f then
    let a := s.answer code f
    a.state.hand (writtenService code (a.written f))
  else s.hand (writtenService code f)

/-- A good service frame arrives at ring-in (R110, R120). -/
def State.serviceArrives (s : State) (code : BitVec 8) (f : ServiceFrame) : State :=
  s.onArrival fun t => t.takeService code f

end Sys2Proof.Machine
end

