-- ==== Sys2Proof/Machine/Reception.lean ====
section
/-! DEFINITION. What the part does with a frame completed at ring-in: ENUM frames (R121, R126, R127), and the check and dispatch of a
frame given as bytes (R113 to R115, R119 to R121). -/

namespace Sys2Proof.Machine

/-- The next position of an ENUM frame, where 0 counts as 63 (R118). -/
def enumPosition (f : EnumFrame) : Nat := if f.nextPosition = 0 then 63 else f.nextPosition.toNat

/-- A follower reads an ENUM frame (R21, R126): it takes the next position and enters READY unsynchronised, or, with no position
left, gives up its own and becomes IDLE; the frame goes on with the position or the excess counted. -/
def State.takePosition (s : State) (f : EnumFrame) : State :=
  if h : enumPosition f < 63 then
    let t := s.setSeq { s.seq with runState := .ready, originNumber := none, haltStep := none, haltKind := .pause }
    let t := t.setHandler { t.handler with position := some ⟨enumPosition f, h⟩ }
    t.hand (writtenEnum { reserved := 0, nextPosition := BitVec.ofNat 6 (enumPosition f + 1), excessCount := f.excessCount })
  else
    let t := s.setSeq { s.seq with runState := .idle, originNumber := none, haltStep := none }
    let t := t.setHandler { t.handler with position := none }
    t.hand
      (writtenEnum
        { reserved := 0, nextPosition := 63, excessCount := BitVec.ofNat 8 (min (f.excessCount.toNat + 1) 255) })

/-- The root consumes an ENUM frame (R127). -/
def State.endEnumeration (s : State) (f : EnumFrame) : State :=
  if s.handler.enumerationOutstanding then
    s.setHandler
      { s.handler with
        ringSize := some (enumPosition f), excessCount := f.excessCount.toNat, enumerationOutstanding := false }
  else s.discardUnknown

/-- A good ENUM frame (R121): read and forwarded at a follower, consumed at the root. -/
def State.takeEnum (s : State) (f : EnumFrame) : State :=
  match s.seq.role with
  | .follower => s.takePosition f
  | .root => s.endEnumeration f

/-- A good beat frame that is not unknown (R119): read and forwarded at a follower, consumed at the root. -/
def State.dispatchBeat (s : State) (bytes : List Byte) : State :=
  match s.seq.role with
  | .follower => s.passBeat bytes
  | .root => s.takeBeat bytes

/-- A good frame, by its type (R115, R119 to R121). -/
def State.dispatch (s : State) (bytes : List Byte) : State :=
  match frameType bytes with
  | none => s.discardUnknown
  | some .beat => if beatImpossible bytes then s.discardUnknown else s.dispatchBeat bytes
  | some .service => s.takeService (byteAt bytes 3) (readService bytes)
  | some .enum => s.takeEnum (readEnum bytes)

/-- A completed frame is checked (R113, R114) and dispatched. A frame is completed at its 62nd byte at the latest (R176): bytes
beyond belong to no frame. -/
def State.takeFrame (s : State) (bytes : List Byte) : State :=
  let frame := bytes.take 62
  if frameGood frame then s.dispatch frame else s.discardFailed

/-- A frame given as bytes arrives at ring-in, completed at its end mark (R110, R176). -/
def State.frameArrives (s : State) (bytes : List Byte) : State := s.onArrival fun t => t.takeFrame bytes

/-- A frame in reception is completed before its end mark (R176): by the gap limit or by a byte too many. The bytes and the end mark
that follow belong to no frame. With no frame in reception, as after the frame's end mark, nothing is completed. -/
def State.frameCompletedEarly (s : State) (bytes : List Byte) : State :=
  if s.handler.inReception then (s.setReception .ended).takeFrame bytes else s

/-- A start mark with a frame in reception (R177): the frame is completed at the mark and the next one begins there. -/
def State.cutByStartMark (s : State) (bytes : List Byte) : State := (s.frameCompletedEarly bytes).beginReception

end Sys2Proof.Machine
end

