-- ==== Sys2Proof/Machine/ResetEvents.lean ====
section
/-! DEFINITION. The meanings of the reset and reference rows: POWER_ON, PIN_RESET, RESET_N_RELEASE, SETTLE_TIMER_EXPIRY,
REFERENCE_LOSS, REFERENCE_RETURN. -/

namespace Sys2Proof.Machine

/-- What a hardware reset leaves (R23, R110): every block at its power-on values, the RESET_N level and the reset cause as given, a
frame in reception abandoned. The waiting commands and the model's tick counter are not the part's. -/
def State.hardwareReset (s : State) (cause : ResetCause) (resetN : Bool) : State :=
  let t := State.reset
  let t := t.setSeq { t.seq with resetCause := cause, settleTimer := cause.settleTime, resetN }
  let t := t.setHandler { t.handler with reception := s.handler.reception.abandoned }
  (t.setClock { t.clock with ticks := s.clock.ticks }).setPending s.pending

/-- POWER_ON (R8, R23): the pin RESET_N stays at its level. -/
def execPowerOn (s : State) : Host.Outcome State Fault Refusal := .next (s.hardwareReset .power s.seq.resetN)

/-- PIN_RESET (R8, R23): a falling edge of RESET_N, at any time. -/
def execPinReset (s : State) : Host.Outcome State Fault Refusal := .next (s.hardwareReset .pin false)

/-- RESET_N_RELEASE (R8): with RESET_N high the settle timer may count. -/
def execResetNRelease (s : State) : Host.Outcome State Fault Refusal := .next (s.setSeq { s.seq with resetN := true })

/-- The settle timer counts (R8): in COLD, with RESET_N high and the reference present. -/
def Sequencer.settles (q : Sequencer) : Bool := q.runState == .cold && q.resetN && q.referencePresent

/-- The part leaves COLD (R8, R9, R110): role and position from the strap, ports ON, the watchdog started at a follower, IDLE. -/
def State.leaveCold (s : State) (rootsel : Bool) : State :=
  let role : Role := if rootsel then .root else .follower
  let left : Sequencer := { s.seq with settleTimer := 0, role, runState := .idle }
  (s.setSeq (left.restartFollowerWatchdog s.clock.time s.plan.live.header.beatTimeout)).setHandler
    { s.handler with ringIn := true, ringOut := true, position := if rootsel then some 0 else none }

/-- SETTLE_TIMER_EXPIRY (R8, R9): without effect where the timer does not count (log entry 5). -/
def execSettleTimerExpiry (rootsel : Bool) (s : State) : Host.Outcome State Fault Refusal :=
  .next (if s.seq.settles then s.leaveCold rootsel else s)

/-- A declaration of reference loss (R7): in COLD settling restarts (R8); elsewhere the loss is latched and counted, the strobe count
cleared (R3), and RUN or HALTING left for STRANDED. -/
def State.loseReference (s : State) : State :=
  let q : Sequencer := { s.seq with referencePresent := false, strobeCount := 0 }
  let lost : Sequencer := { q with referenceLost := true, referenceLossCount := raiseCount q.referenceLossCount 1 }
  match s.seq.runState with
  | .cold => s.setSeq { q with settleTimer := q.resetCause.settleTime }
  | .run | .halting => (s.setSeq lost).enterStranded
  | .idle | .ready | .halted | .broken | .stranded => s.setSeq lost

/-- REFERENCE_LOSS (R7): without effect where the reference is already lost (log entry 5). -/
def execReferenceLoss (s : State) : Host.Outcome State Fault Refusal :=
  .next (if s.seq.referencePresent then s.loseReference else s)

/-- REFERENCE_RETURN (R7): the reference is present; no run state and no latched flag changes. -/
def execReferenceReturn (s : State) : Host.Outcome State Fault Refusal :=
  .next ((s.setSeq { s.seq with referencePresent := true }).setClock { s.clock with sinceEdge := 0 })

end Sys2Proof.Machine
end

