-- ==== Sys2Proof/Machine/StrobeEvents.lean ====
section
/-! DEFINITION. The meanings of the rows PACE_STROBE and DEFERRED_EMISSION. -/

namespace Sys2Proof.Machine

/-- PACE_STROBE (R3, R4, R5, R6, R15, R130): without effect where no strobe can be issued (log entry 5). -/
def execPaceStrobe (watch : BitVec 16) (order : StrobeOrder) (s : State) : Host.Outcome State Fault Refusal :=
  .next (if s.seq.strobes then s.strobe watch order else s)

/-- A deferred emission can be made at a strobe (R130): at the root in a numbered state, with an emission due and room in the list. -/
def State.deferredEmissionReady (s : State) : Bool :=
  s.seq.strobes && s.seq.role == .root && s.seq.runState.numbered && s.root.emissionDue && s.root.hasRoom

/-- DEFERRED_EMISSION (R130, R132): the emission alone, apart from the strobe's step (log entry 7). -/
def execDeferredEmission (s : State) : Host.Outcome State Fault Refusal :=
  .next (if s.deferredEmissionReady then s.emitDeferred else s)

end Sys2Proof.Machine
end

