-- ==== Sys2Proof/Machine/TimerEvents.lean ====
section
/-! DEFINITION. The meanings of the timer rows: BEAT_WATCHDOG_EXPIRY, RETURN_TIMEOUT, ENUMERATION_TIMEOUT. -/

namespace Sys2Proof.Machine

/-- The beat watchdog's expiry (R17). -/
def State.expireWatchdog (s : State) : State :=
  let q : Sequencer := { s.seq with watchdog := .expired, silenceCount := raiseCount s.seq.silenceCount 1 }
  match s.seq.runState with
  | .run | .halting => (s.setSeq q).enterStranded
  | .cold | .idle | .ready | .halted | .broken | .stranded => s.setSeq { q with ringSilent := true }

/-- The beat watchdog has expired (R17): it runs at a follower out of COLD, and its time has reached the beat timeout. An expired
watchdog does not expire again. -/
def State.watchdogOverdue (s : State) : Bool :=
  s.seq.role == .follower && s.seq.runState != .cold && s.seq.watchdog.isDue s.clock.time

/-- BEAT_WATCHDOG_EXPIRY (R17), at the monitor time the part has come to. A good beat frame taken before it restarts the watchdog, so
that there is no expiry then (log entry 5). -/
def execBeatWatchdogExpiry (s : State) : Host.Outcome State Fault Refusal :=
  .next (if s.watchdogOverdue then s.expireWatchdog else s)

/-- RETURN_TIMEOUT (R136), at the monitor time the part has come to. A return taken before it leaves an oldest entry whose own age
decides, and a list that is empty never expires (log entry 5). -/
def execReturnTimeout (s : State) : Host.Outcome State Fault Refusal :=
  .next (if s.returnOverdue then s.returnTimedOut else s)

/-- ENUMERATION_TIMEOUT (R127): only while an enumeration is outstanding. -/
def execEnumerationTimeout (s : State) : Host.Outcome State Fault Refusal :=
  .next (if s.handler.enumerationOutstanding then s.loseEnumeration else s)

end Sys2Proof.Machine
end

