-- ==== Sys2Proof/Machine/Clock.lean ====
section
/-! DEFINITION. Time. On an empty queue one tick passes: a period of REFCLK or a microsecond of the monitor oscillator, whichever the
free value `Config.tickIsReferencePeriod` names. A tick moves the counters and timers that the rules describe and queues the
event of each one that has come to its end (log entry 4). The table has no row for a tick. -/

namespace Sys2Proof.Machine

/-- Queue the event when it has come due. -/
def dueIf (due : Bool) (event : Instr) : List Instr := if due then [event] else []

/-- The order of step and emission at a strobe that tick `n` issues. -/
def tickOrder (n : Nat) : StrobeOrder := if Config.stepBeforeEmission n then .stepFirst else .emissionFirst

/-- A REFCLK edge (R3, R7): it is the return of a lost reference; with the reference present and the part out of COLD it raises the
strobe count; when the count reaches the pace in force it becomes 0 and a strobe is issued. -/
def State.referencePeriod (s : State) : State :=
  let n := s.clock.ticks
  let t := s.setClock { s.clock with sinceEdge := 0 }
  if s.seq.referencePresent = false then t.setPending [.referenceReturn]
  else if s.seq.runState = .cold then t
  else
    let count := s.seq.strobeCount + 1
    let due := decide (s.seq.paceInForce ≤ count)
    (t.setSeq { t.seq with strobeCount := if due then 0 else count }).setPending
      (dueIf due (.paceStrobe (Config.watchLines n) (tickOrder n)))

/-- A microsecond at the settle timer, while it counts (R8). -/
def Sequencer.settleTicked (q : Sequencer) : Nat := if q.settles then q.settleTimer - 1 else q.settleTimer

/-- A microsecond at the enumeration timer, which counts while an enumeration is outstanding (R124, R127). -/
def FrameHandler.enumerationTicked (h : FrameHandler) : Nat :=
  if h.enumerationOutstanding then min (h.enumerationTimer + 1) 65535 else h.enumerationTimer

/-- A microsecond at ring-in, in which `bytes` arrive (R176). While a frame is in reception the bytes join it, up to the 62nd, which
completes it, and the gap timer measures the time since the last byte; bytes between frames are not received. -/
def FrameHandler.bytesTicked (h : FrameHandler) (bytes : List Byte) : FrameHandler :=
  if h.inReception then
    { h with arrived := (h.arrived ++ bytes).take 62, gapTimer := if bytes = [] then h.gapTimer + 1 else 0 }
  else h

/-- The timers and ring-in after one microsecond (R7, R8, R127, R176); the monitor time is the one from which the watchdog (R17) and the
return timeout (R136) are measured. -/
def State.timersTicked (s : State) : State :=
  ((s.setClock { s.clock with time := s.clock.time + 1, sinceEdge := s.clock.sinceEdge + 1 }).setSeq
    { s.seq with settleTimer := s.seq.settleTicked }).setHandler
    { s.handler.bytesTicked (Config.bytesArrive s.clock.ticks) with enumerationTimer := s.handler.enumerationTicked }

/-- The events that have come due after a microsecond: reference loss after 2 µs (R7), the expiries of the settle timer (R8), the
watchdog (R17), the return timeout (R136) and the enumeration timer (R127), and the end of a frame in reception by its 62nd byte or by
the gap limit of 4 µs (R176), with the bytes that have been delivered. -/
def State.dueEvents (s : State) : List Instr :=
  dueIf (s.seq.referencePresent && decide (2 ≤ s.clock.sinceEdge)) .referenceLoss ++
    dueIf (s.seq.settles && s.seq.settleTimer == 0) (.settleTimerExpiry (Config.rootsel s.clock.ticks)) ++
    dueIf s.watchdogOverdue .beatWatchdogExpiry ++
    dueIf s.returnOverdue .returnTimeout ++
    dueIf s.enumerationOverdue .enumerationTimeout ++
    dueIf (s.handler.inReception && decide (62 ≤ s.handler.arrived.length)) (.frameOverlength s.handler.arrived) ++
    dueIf (s.handler.inReception && decide (4 ≤ s.handler.gapTimer)) (.frameGapTimeout s.handler.arrived)

/-- A microsecond of the monitor oscillator. -/
def State.microsecond (s : State) : State :=
  let t := s.timersTicked
  t.setPending t.dueEvents

/-- One tick on an empty queue. -/
def State.tick (s : State) : State :=
  let t := s.setClock { s.clock with ticks := s.clock.ticks + 1 }
  if Config.tickIsReferencePeriod s.clock.ticks then t.referencePeriod else t.microsecond

end Sys2Proof.Machine
end

