-- ==== Sys2Proof/Machine/FrameEvents.lean ====
section
/-! DEFINITION. The meanings of the rows for beat and ENUM frames, reception and transmission. -/

namespace Sys2Proof.Machine

/-- BEAT_FRAME_AT_FOLLOWER (R114, R115, R119): the frame is checked, read, rewritten and forwarded. What the part does with the bytes
is fixed by them and by its role. -/
def execBeatFrameAtFollower (bytes : List Byte) (s : State) : Host.Outcome State Fault Refusal := .next (s.frameArrives bytes)

/-- BEAT_FRAME_AT_ROOT (R114, R115, R134, R137): the frame is checked and consumed. -/
def execBeatFrameAtRoot (bytes : List Byte) (s : State) : Host.Outcome State Fault Refusal := .next (s.frameArrives bytes)

/-- ENUM_FRAME_AT_FOLLOWER (R21, R126). -/
def execEnumFrameAtFollower (frame : EnumFrame) (s : State) : Host.Outcome State Fault Refusal :=
  .next (s.onArrival fun t => t.takeEnum frame)

/-- ENUM_FRAME_AT_ROOT (R127). -/
def execEnumFrameAtRoot (frame : EnumFrame) (s : State) : Host.Outcome State Fault Refusal :=
  .next (s.onArrival fun t => t.takeEnum frame)

/-- SERVICE_FRAME_PASS (R120): a frame for another position is forwarded unchanged. -/
def execServiceFramePass (code : BitVec 8) (frame : ServiceFrame) (s : State) : Host.Outcome State Fault Refusal :=
  .next (s.serviceArrives code frame)

/-- FRAME_GAP_TIMEOUT (R176): 4 µs without a byte complete the frame with the bytes delivered so far. -/
def execFrameGapTimeout (bytes : List Byte) (s : State) : Host.Outcome State Fault Refusal :=
  .next (s.frameCompletedEarly bytes)

/-- FRAME_OVERLENGTH (R176): the 62nd byte completes the frame. -/
def execFrameOverlength (bytes : List Byte) (s : State) : Host.Outcome State Fault Refusal :=
  .next (s.frameCompletedEarly bytes)

/-- START_MARK_CUT (R177): the frame in reception is completed short, and a new one begins. -/
def execStartMarkCut (bytes : List Byte) (s : State) : Host.Outcome State Fault Refusal := .next (s.cutByStartMark bytes)

/-- FRAME_TRANSMIT_DONE (R111, R178): ring-out starts the oldest frame waiting. -/
def execFrameTransmitDone (s : State) : Host.Outcome State Fault Refusal := .next (s.setHandler s.handler.transmitDone)

/-- START_MARK (R110, R176). With a frame in reception the mark cuts it (R177), as a frame of the bytes that have been delivered. -/
def execStartMark (s : State) : Host.Outcome State Fault Refusal := .next (s.cutByStartMark s.handler.arrived)

end Sys2Proof.Machine
end

