-- ==== Sys2Proof/Machine/RootCommands.lean ====
section
/-! DEFINITION. The meanings of the root commands (R170) and of TAKE_NOTICE. Each is the arrival of a good service frame with the row's
command code (R166). -/

namespace Sys2Proof.Machine

/-- TAKE_NOTICE (R143, R169). -/
def execTakeNotice (frame : ServiceFrame) (s : State) : Host.Outcome State Fault Refusal := .next (s.serviceArrives 0x0A frame)

/-- RUN (R144, R145). -/
def execRun (frame : ServiceFrame) (s : State) : Host.Outcome State Fault Refusal := .next (s.serviceArrives 0x10 frame)

/-- RUN_FOR (R144, R146). -/
def execRunFor (frame : ServiceFrame) (s : State) : Host.Outcome State Fault Refusal := .next (s.serviceArrives 0x11 frame)

/-- PAUSE (R144, R147). -/
def execPause (frame : ServiceFrame) (s : State) : Host.Outcome State Fault Refusal := .next (s.serviceArrives 0x12 frame)

/-- CLEAR_BREAK (R144, R147). -/
def execClearBreak (frame : ServiceFrame) (s : State) : Host.Outcome State Fault Refusal := .next (s.serviceArrives 0x13 frame)

/-- ORIGIN (R144, R148). -/
def execOrigin (frame : ServiceFrame) (s : State) : Host.Outcome State Fault Refusal := .next (s.serviceArrives 0x14 frame)

/-- SWAP (R153). -/
def execSwap (frame : ServiceFrame) (s : State) : Host.Outcome State Fault Refusal := .next (s.serviceArrives 0x15 frame)

/-- ENUMERATE (R125). -/
def execEnumerate (frame : ServiceFrame) (s : State) : Host.Outcome State Fault Refusal := .next (s.serviceArrives 0x16 frame)

end Sys2Proof.Machine
end

