-- ==== Sys2Proof/Machine/TableCommands.lean ====
section
/-! DEFINITION. The meanings of the service rows that any part takes: UNASSIGNED_COMMAND, READ to COPY_LIVE, and RESET_PART. Each is the
arrival of a good service frame with the row's command code (R166); a row that names a table fixes the frame's table too. -/

namespace Sys2Proof.Machine

/-- UNASSIGNED_COMMAND (R164). -/
def execUnassignedCommand (code : BitVec 8) (frame : ServiceFrame) (s : State) : Host.Outcome State Fault Refusal :=
  .next (s.serviceArrives code frame)

/-- READ (R166). -/
def execRead (frame : ServiceFrame) (s : State) : Host.Outcome State Fault Refusal := .next (s.serviceArrives 0x01 frame)

/-- WRITE (R166). -/
def execWrite (frame : ServiceFrame) (s : State) : Host.Outcome State Fault Refusal := .next (s.serviceArrives 0x02 frame)

/-- EVENT_LIMIT_WRITE (R78): a WRITE to table EVENT, field 10. -/
def execEventLimitWrite (frame : ServiceFrame) (s : State) : Host.Outcome State Fault Refusal :=
  .next (s.serviceArrives 0x02 { frame with table := 0x08, field := 0x0A })

/-- SOURCE_WRITE (R97, R102): a WRITE to table SOURCE. -/
def execSourceWrite (frame : ServiceFrame) (s : State) : Host.Outcome State Fault Refusal :=
  .next (s.serviceArrives 0x02 { frame with table := 0x09 })

/-- MASK_WRITE (R98, R102): a WRITE to table MASK. -/
def execMaskWrite (frame : ServiceFrame) (s : State) : Host.Outcome State Fault Refusal :=
  .next (s.serviceArrives 0x02 { frame with table := 0x0B })

/-- GATE_WRITE (R89): a WRITE to table GATE. -/
def execGateWrite (frame : ServiceFrame) (s : State) : Host.Outcome State Fault Refusal :=
  .next (s.serviceArrives 0x02 { frame with table := 0x0A })

/-- CURSOR (R167). -/
def execCursor (frame : ServiceFrame) (s : State) : Host.Outcome State Fault Refusal := .next (s.serviceArrives 0x03 frame)

/-- READ_NEXT (R167). -/
def execReadNext (frame : ServiceFrame) (s : State) : Host.Outcome State Fault Refusal := .next (s.serviceArrives 0x04 frame)

/-- WRITE_NEXT (R167). -/
def execWriteNext (frame : ServiceFrame) (s : State) : Host.Outcome State Fault Refusal := .next (s.serviceArrives 0x05 frame)

/-- SET_BITS (R168). -/
def execSetBits (frame : ServiceFrame) (s : State) : Host.Outcome State Fault Refusal := .next (s.serviceArrives 0x06 frame)

/-- CLEAR_BITS (R168). -/
def execClearBits (frame : ServiceFrame) (s : State) : Host.Outcome State Fault Refusal := .next (s.serviceArrives 0x07 frame)

/-- TEST_SET (R168). -/
def execTestSet (frame : ServiceFrame) (s : State) : Host.Outcome State Fault Refusal := .next (s.serviceArrives 0x08 frame)

/-- COPY_LIVE (R169). -/
def execCopyLive (frame : ServiceFrame) (s : State) : Host.Outcome State Fault Refusal := .next (s.serviceArrives 0x09 frame)

/-- RESET_PART (R171). -/
def execResetPart (frame : ServiceFrame) (s : State) : Host.Outcome State Fault Refusal := .next (s.serviceArrives 0x0B frame)

end Sys2Proof.Machine
end

