-- ==== Sys2Proof/Machine/Dispatch.lean ====
section
/-! DEFINITION. The effect of a command on everything but the queue of waiting commands: one arm per row of
spec/opcode_table.json, in its order. -/

namespace Sys2Proof.Machine

def exec (i : Instr) (s : State) : Host.Outcome State Fault Refusal :=
  match i with
  | .powerOn => Sys2Proof.Machine.execPowerOn s
  | .pinReset => Sys2Proof.Machine.execPinReset s
  | .resetNRelease => Sys2Proof.Machine.execResetNRelease s
  | .settleTimerExpiry rootsel => Sys2Proof.Machine.execSettleTimerExpiry rootsel s
  | .referenceLoss => Sys2Proof.Machine.execReferenceLoss s
  | .referenceReturn => Sys2Proof.Machine.execReferenceReturn s
  | .paceStrobe watch order => Sys2Proof.Machine.execPaceStrobe watch order s
  | .deferredEmission => Sys2Proof.Machine.execDeferredEmission s
  | .beatWatchdogExpiry => Sys2Proof.Machine.execBeatWatchdogExpiry s
  | .returnTimeout => Sys2Proof.Machine.execReturnTimeout s
  | .enumerationTimeout => Sys2Proof.Machine.execEnumerationTimeout s
  | .beatFrameAtFollower bytes => Sys2Proof.Machine.execBeatFrameAtFollower bytes s
  | .beatFrameAtRoot bytes => Sys2Proof.Machine.execBeatFrameAtRoot bytes s
  | .enumFrameAtFollower frame => Sys2Proof.Machine.execEnumFrameAtFollower frame s
  | .enumFrameAtRoot frame => Sys2Proof.Machine.execEnumFrameAtRoot frame s
  | .serviceFramePass code frame => Sys2Proof.Machine.execServiceFramePass code frame s
  | .frameGapTimeout bytes => Sys2Proof.Machine.execFrameGapTimeout bytes s
  | .frameOverlength bytes => Sys2Proof.Machine.execFrameOverlength bytes s
  | .startMarkCut bytes => Sys2Proof.Machine.execStartMarkCut bytes s
  | .frameTransmitDone => Sys2Proof.Machine.execFrameTransmitDone s
  | .unassignedCommand code frame => Sys2Proof.Machine.execUnassignedCommand code frame s
  | .read frame => Sys2Proof.Machine.execRead frame s
  | .write frame => Sys2Proof.Machine.execWrite frame s
  | .eventLimitWrite frame => Sys2Proof.Machine.execEventLimitWrite frame s
  | .sourceWrite frame => Sys2Proof.Machine.execSourceWrite frame s
  | .maskWrite frame => Sys2Proof.Machine.execMaskWrite frame s
  | .gateWrite frame => Sys2Proof.Machine.execGateWrite frame s
  | .cursor frame => Sys2Proof.Machine.execCursor frame s
  | .readNext frame => Sys2Proof.Machine.execReadNext frame s
  | .writeNext frame => Sys2Proof.Machine.execWriteNext frame s
  | .setBits frame => Sys2Proof.Machine.execSetBits frame s
  | .clearBits frame => Sys2Proof.Machine.execClearBits frame s
  | .testSet frame => Sys2Proof.Machine.execTestSet frame s
  | .copyLive frame => Sys2Proof.Machine.execCopyLive frame s
  | .takeNotice frame => Sys2Proof.Machine.execTakeNotice frame s
  | .resetPart frame => Sys2Proof.Machine.execResetPart frame s
  | .run frame => Sys2Proof.Machine.execRun frame s
  | .runFor frame => Sys2Proof.Machine.execRunFor frame s
  | .pause frame => Sys2Proof.Machine.execPause frame s
  | .clearBreak frame => Sys2Proof.Machine.execClearBreak frame s
  | .origin frame => Sys2Proof.Machine.execOrigin frame s
  | .swap frame => Sys2Proof.Machine.execSwap frame s
  | .enumerate frame => Sys2Proof.Machine.execEnumerate frame s
  | .startMark => Sys2Proof.Machine.execStartMark s

end Sys2Proof.Machine
end

