-- ==== Sys2Proof/WellFormed.lean ====
section
/-! DEFINITION. Which commands are well formed: the operands are ones the row's event can bring. `exec` is total and does
not ask for it; a command that is not well formed names an event that its row does not describe. -/

namespace Sys2Proof

/-- The assigned command codes (R166). -/
def assignedCode (code : BitVec 8) : Bool :=
  (1 ≤ code.toNat && code.toNat ≤ 11) || (16 ≤ code.toNat && code.toNat ≤ 22)

/-- A WRITE that has no row of its own in the table: any but the limit of an event entry, the SOURCE, the MASK and the GATE
table. -/
def plainWrite (frame : ServiceFrame) : Bool :=
  !(frame.table == 0x08 && frame.field == 0x0A) && frame.table != 0x09 && frame.table != 0x0A && frame.table != 0x0B

/-- The operands of a command are ones its row's event can bring. -/
def Instr.wellFormed : Instr → Bool
  | .beatFrameAtFollower bytes | .beatFrameAtRoot bytes => bytes.length ≤ 61
  | .frameGapTimeout bytes | .startMarkCut bytes => bytes.length ≤ 61
  | .frameOverlength bytes => bytes.length == 62
  | .unassignedCommand code _ => !assignedCode code
  | .write frame => plainWrite frame
  | .eventLimitWrite frame => frame.table == 0x08 && frame.field == 0x0A
  | .sourceWrite frame => frame.table == 0x09
  | .gateWrite frame => frame.table == 0x0A
  | .maskWrite frame => frame.table == 0x0B
  | .serviceFramePass _ frame => frame.destination != 63
  | .powerOn | .pinReset | .resetNRelease | .settleTimerExpiry _ | .referenceLoss | .referenceReturn | .paceStrobe _ _
  | .deferredEmission | .beatWatchdogExpiry | .returnTimeout | .enumerationTimeout | .enumFrameAtFollower _
  | .enumFrameAtRoot _ | .frameTransmitDone | .read _ | .cursor _ | .readNext _ | .writeNext _ | .setBits _ | .clearBits _
  | .testSet _ | .copyLive _ | .takeNotice _ | .resetPart _ | .run _ | .runFor _ | .pause _ | .clearBreak _ | .origin _
  | .swap _ | .enumerate _ | .startMark => true

end Sys2Proof
end

