-- ==== Sys2Proof/Safety.lean ====
section
/-! DEFINITION. What a sound state of the part is: the laws of the device that the spec states and the ranges its tables give, each
as a decidable proposition over one state, and the terms in which claims speak of an emission, of a service frame and of its reply. -/

namespace Sys2Proof

/-! ### Answers to a service frame -/

/-- The frame answered OK with a reply value (R163). -/
def ServiceFrame.ok (f : ServiceFrame) (value : Nat) : ServiceFrame := { f with status := 0, replyValue := BitVec.ofNat 32 value }

/-- The frame refused with a status: the reply value is 0 (R163). -/
def ServiceFrame.refused (f : ServiceFrame) (status : Machine.Status) : ServiceFrame := { f with status := status.code, replyValue := 0 }

end Sys2Proof

namespace Sys2Proof.Machine

/-! ### Laws of one state -/

/-- Both ports are OFF in COLD and ON in every other run state (R110). -/
abbrev State.PortsLaw (s : State) : Prop :=
  s.handler.ringIn = (s.seq.runState != .cold) ∧ s.handler.ringOut = (s.seq.runState != .cold)

/-- A staged or live record whose spans and increment are in their ranges (R24). -/
abbrev TrackRecord.Ranged (r : TrackRecord) : Prop :=
  1 ≤ r.increment ∧ r.increment ≤ 4095 ∧ 1 ≤ r.high ∧ r.high ≤ 65535 ∧ 1 ≤ r.low ∧ r.low ≤ 65535

/-- A live record (R26): the increment is at most both spans, and a FOLLOW record's parent has a lower index. -/
abbrev TrackRecord.Lawful (r : TrackRecord) (i : Fin 24) : Prop :=
  r.Ranged ∧ r.increment ≤ min r.high r.low ∧ (r.mode = .follow → r.parent < i)

/-- The running state fits its record: φ is below the span of the level (R26), and close-pending is set in a high phase under a
CLEAN gate only (R40). -/
abbrev TrackRun.Fits (t : TrackRun) (r : TrackRecord) : Prop :=
  t.phase < r.span t.level ∧ t.edges < 2 ^ 32 ∧ (t.closePending = true → t.level = true ∧ r.gateStyle = .clean)

/-- The law of the tracks (R24, R26). -/
abbrev State.TrackLaw (s : State) : Prop :=
  (∀ i : Fin 24, (s.plan.staged.tracks[i]).Ranged) ∧ (∀ i : Fin 24, (s.plan.live.tracks[i]).Lawful i) ∧
    ∀ i : Fin 24, (s.tracks[i]).Fits s.plan.live.tracks[i]

/-- The law of the lanes: the output is entry r of the history, complemented if invert is yes (R49). -/
abbrev State.LaneLaw (s : State) : Prop :=
  ∀ i : Fin 32, (s.lanes[i]).output = (((s.lanes[i]).history[(s.plan.live.lanes[i]).retard]) ^^ (s.plan.live.lanes[i]).invert)

/-- The running state of a cell fits its configuration (R70). -/
abbrev CellRun.Fits (t : CellRun) (c : CellConfig) : Prop :=
  t.timer ≤ c.length ∧ ((c.mode = .filter ∨ c.mode = .count) → t.timer < c.length)

/-- The law of the cells (R58, R70). -/
abbrev State.CellLaw (s : State) : Prop :=
  (∀ i : Fin 16, 1 ≤ (s.plan.staged.cells[i]).length ∧ (s.plan.staged.cells[i]).length ≤ 4095) ∧
    (∀ i : Fin 16, 1 ≤ (s.plan.live.cells[i]).length ∧ (s.plan.live.cells[i]).length ≤ 4095) ∧
      ∀ i : Fin 16, (s.cells[i]).Fits s.plan.live.cells[i]

/-- The running state of an entry fits its limit (R78): nothing remains while the limit is 0, and something does while the limit is
not 0 and the entry not done. -/
abbrev EventEntry.Fits (e : EventEntry) : Prop :=
  e.remaining ≤ e.limit ∧ (e.limit ≠ 0 → e.done = false → 1 ≤ e.remaining) ∧ e.hits ≤ 65535

/-- The law of the event table (R78). -/
abbrev State.EventLaw (s : State) : Prop := ∀ i : Fin 32, (s.events.entries[i]).Fits

/-- A pending record's source qualifies and the record is at the source's level (R99, R100, R102); the merged count stops at 15. -/
abbrev RequestUnit.Fits (u : RequestUnit) (source : Fin 36) (p : PendingRequest) : Prop :=
  u.qualifies source = true ∧ p.level = (u.settings[source]).level.val ∧ p.merged ≤ 15

/-- The law of the request unit: every pending record fits its source, and sources 33 and 35 stay as they are fixed (R97). -/
abbrev State.RequestLaw (s : State) : Prop :=
  (∀ i : Fin 36, ∀ p ∈ s.requests.waiting[i], s.requests.Fits i p) ∧
    s.requests.settings[33] = { enable := true, level := 3 } ∧ s.requests.settings[35] = { enable := true, level := 3 }

/-- The law of the outstanding beat list (R133): at most 32 entries, with consecutive sequences, the newest one before the next
sequence; so the sequences are pairwise distinct. -/
abbrev RootTimebase.ListLaw (r : RootTimebase) : Prop :=
  r.outstanding.length ≤ 32 ∧ r.nextSequence < 256 ∧
    r.outstanding.map (fun e => e.sequence) =
      (List.range r.outstanding.length).map fun k => (r.nextSequence + 256 - r.outstanding.length + k) % 256

/-- The law of the halt record and the notice queue (R142): at most 8 and 16 entries, and an open record has its primary. -/
abbrev RootTimebase.RecordLaw (r : RootTimebase) : Prop :=
  r.haltRecord.entries.length ≤ 8 ∧ r.notices.length ≤ 16 ∧ (r.haltRecord.isOpen = true → r.haltRecord.entries ≠ [])

/-- The law of the queues (R111, R133, R142). -/
abbrev State.QueueLaw (s : State) : Prop := s.handler.queue.length ≤ 4 ∧ s.root.ListLaw ∧ s.root.RecordLaw

/-- The law of the step counter (R2, R16): C is at most G, and at the root G is G_root, which is F from a halt decision on. In COLD
all of them are 0 and the role is still to be fixed. -/
abbrev State.GrantLaw (s : State) : Prop :=
  s.seq.step ≤ s.seq.grant ∧ s.seq.grant ≤ maxStep ∧ (s.seq.role = .root → s.root.rootGrant = s.seq.grant) ∧
    (s.seq.role = .root → s.seq.runState = .halting ∨ s.seq.runState = .halted ∨ s.seq.runState = .broken →
      s.seq.haltStep = some s.seq.grant) ∧
      (s.seq.runState = .cold → s.seq.grant = 0 ∧ s.root.rootGrant = 0 ∧ s.seq.role = .follower)

/-- The law of the ring position (R9, R103, R126): none in COLD, 0 at the root, and at a follower one other than 0, held exactly in
the numbered states. -/
abbrev State.PositionLaw (s : State) : Prop :=
  (s.seq.runState = .cold → s.seq.role = .follower ∧ s.handler.position = none) ∧
    (s.seq.runState ≠ .cold → s.seq.role = .root → s.handler.position = some 0) ∧
      (s.seq.role = .follower → s.handler.position.isSome = s.seq.runState.numbered ∧ s.handler.position ≠ some 0)

/-- The law of the cursor (R162): its index is at most the size of its table. -/
abbrev State.CursorLaw (s : State) : Prop := s.cursor.index ≤ s.cursor.table.size

/-- At a follower the root timebase holds its reset values (08_the_root_timebase_and_halt_decision.md, opening). -/
abbrev State.FollowerLaw (s : State) : Prop := s.seq.role = .follower → s.root = RootTimebase.default

/-- The saturating counts of R1, R108, R128, R129, R142 and R151, none above 65535. -/
abbrev State.CountLaw (s : State) : Prop :=
  ∀ n ∈ [s.seq.underrunCount, s.seq.silenceCount, s.seq.referenceLossCount, s.handler.checkErrors, s.handler.unknowns,
      s.handler.outputDrops, s.requests.droppedCount, s.requests.mergedCount, s.requests.cancelCount, s.requests.placedCount,
      s.root.lostCount, s.root.foreignCount, s.root.deferredCount, s.root.noticeDropCount, s.root.largestRoundTrip,
      s.root.haltRecord.overflowCount, s.plan.lateCount], n ≤ 65535

/-! ### Emissions -/

/-- A frame of the root with these fields of the table of R131; its other fields are the same in every run state. -/
def State.rootFrame (s : State) (mode : BeatMode) (haltKind : HaltKind) (grant haltStep : Nat) (reached : Bool) : BeatFields :=
  let announced := s.plan.announced.getD { stage := 0, step := 0 }
  { sequence := s.root.nextSequence, mode, haltKind, originFlag := s.root.originOutstanding
    activateFlag := s.plan.announced.isSome, reached, unsync := false, originNumber := s.root.announcedOrigin.getD 0
    stage := announced.stage, activationStep := announced.step, grant, haltStep, slots := Vector.replicate 4 none }

/-- The root with a frame listed at the tail (R133) and handed to ring-out (R111). -/
def State.emitted (s : State) (f : BeatFields) : State :=
  let entry : OutstandingBeat :=
    { sequence := f.sequence, grant := f.grant, rootStep := s.seq.step, emissionTime := s.clock.time
      haltCurrent := decide (f.mode = .halt), originCurrent := s.root.originOutstanding, numberingCurrent := true }
  (s.setRoot { s.root with
    nextSequence := (s.root.nextSequence + 1) % 256, outstanding := s.root.outstanding ++ [entry] }).hand (writtenBeat f)

/-- The root after step 1 of R132: with a record pending, the best one is given up at position 0 (R106) and processed as a slot
is (R138). -/
def State.OwnRequestTaken (s u : State) : Prop :=
  (s.requests.best = none → u = s) ∧
    ∀ (source : Fin 36) (p : PendingRequest), s.requests.best = some (source, p) →
      u = (s.setRequests { s.requests with
          waiting := s.requests.waiting.set source none, placedCount := min (s.requests.placedCount + 1) 65535 }).processRecord
        { position := 0, source := source.val, kind := p.kind, level := p.level, causeStep := p.causeStep, merged := p.merged }

/-! ### Runs of one block -/

/-- The timer and output of a cell over a sequence of truth-table values, from the value before them. -/
def cellOver (c : CellConfig) : List Bool → Bool → Nat × Bool → Nat × Bool
  | [], _, state => state
  | new :: rest, old, state => cellOver c rest new (c.timed state.1 state.2 old new)

/-! ### Service frames and replies -/

/-- The command code and the frame of a row that is a good service frame's arrival (R166): a row that names a table fixes it. -/
def serviceRow : Instr → Option (BitVec 8 × ServiceFrame)
  | .serviceFramePass code f | .unassignedCommand code f => some (code, f)
  | .read f => some (0x01, f)
  | .write f => some (0x02, f)
  | .eventLimitWrite f => some (0x02, { f with table := 0x08, field := 0x0A })
  | .sourceWrite f => some (0x02, { f with table := 0x09 })
  | .gateWrite f => some (0x02, { f with table := 0x0A })
  | .maskWrite f => some (0x02, { f with table := 0x0B })
  | .cursor f => some (0x03, f)
  | .readNext f => some (0x04, f)
  | .writeNext f => some (0x05, f)
  | .setBits f => some (0x06, f)
  | .clearBits f => some (0x07, f)
  | .testSet f => some (0x08, f)
  | .copyLive f => some (0x09, f)
  | .takeNotice f => some (0x0A, f)
  | .resetPart f => some (0x0B, f)
  | .run f => some (0x10, f)
  | .runFor f => some (0x11, f)
  | .pause f => some (0x12, f)
  | .clearBreak f => some (0x13, f)
  | .origin f => some (0x14, f)
  | .swap f => some (0x15, f)
  | .enumerate f => some (0x16, f)
  | .powerOn | .pinReset | .resetNRelease | .settleTimerExpiry _ | .referenceLoss | .referenceReturn | .paceStrobe _ _
  | .deferredEmission | .beatWatchdogExpiry | .returnTimeout | .enumerationTimeout | .beatFrameAtFollower _
  | .beatFrameAtRoot _ | .enumFrameAtFollower _ | .enumFrameAtRoot _ | .frameGapTimeout _ | .frameOverlength _
  | .startMarkCut _ | .frameTransmitDone | .startMark => none

/-- The bytes of a row that gives its frame as bytes, as far as the frame can hold them (R176). -/
def frameRow : Instr → Option (List Byte)
  | .beatFrameAtFollower bytes | .beatFrameAtRoot bytes | .frameGapTimeout bytes | .frameOverlength bytes
  | .startMarkCut bytes => some (bytes.take 62)
  | .powerOn | .pinReset | .resetNRelease | .settleTimerExpiry _ | .referenceLoss | .referenceReturn | .paceStrobe _ _
  | .deferredEmission | .beatWatchdogExpiry | .returnTimeout | .enumerationTimeout | .enumFrameAtFollower _
  | .enumFrameAtRoot _ | .serviceFramePass _ _ | .frameTransmitDone | .unassignedCommand _ _ | .read _ | .write _
  | .eventLimitWrite _ | .sourceWrite _ | .maskWrite _ | .gateWrite _ | .cursor _ | .readNext _ | .writeNext _ | .setBits _
  | .clearBits _ | .testSet _ | .copyLive _ | .takeNotice _ | .resetPart _ | .run _ | .runFor _ | .pause _ | .clearBreak _
  | .origin _ | .swap _ | .enumerate _ | .startMark => none

/-- The bytes of the frame that a row completes in state `s`: those the row gives, or, at a start mark that cuts a frame in reception,
those that have been delivered (R177). -/
def State.frameCompleted (s : State) (c : Instr) : Option (List Byte) :=
  if c = .startMark ∧ s.handler.inReception = true then some (s.handler.arrived.take 62) else frameRow c

/-- The row brings a service frame with this command code, as its contents or as the bytes of the frame it completes. -/
def State.takesCommand (s : State) (c : Instr) (code : BitVec 8) : Prop :=
  (∃ f, serviceRow c = some (code, f)) ∨
    ∃ bytes, s.frameCompleted c = some bytes ∧ frameType bytes = some .service ∧ byteAt bytes 3 = code

/-- A good beat frame that no part takes for unknown (R113 to R115). -/
abbrev BeatBytes (bytes : List Byte) : Prop :=
  bytes.length = 61 ∧ frameGood bytes = true ∧ frameType bytes = some .beat ∧ beatImpossible bytes = false

/-- The frame is received at ring-in and addressed to this part alone (R110, R163). -/
abbrev State.TakesAlone (s : State) (f : ServiceFrame) : Prop :=
  s.handler.receives = true ∧ f.destination ≠ 63 ∧ s.handler.position.map (fun p => p.val) = some f.destination.toNat

/-- The part may execute a command on table `t` (R164): at a follower, not on a root-only table. -/
abbrev State.MayUse (s : State) (t : TableName) : Prop := s.seq.role = .root ∨ t.rootOnly = false

/-- Ring-in has completed its frame. -/
def State.received (s : State) : State := s.setReception .between

/-- The state with a service frame handed to ring-out (R120). -/
def State.sent (s : State) (code : BitVec 8) (f : ServiceFrame) : State := s.hand (writtenService code f)

end Sys2Proof.Machine
end

