-- ==== Sys2Proof/Certificates/Slice0/Obligations.lean ====
section
/-! DEFINITION. The statements for the provers: what the numbered rules of the spec say each command and each block does, the laws that
every step keeps, and the agreement of reading and writing frames. -/

open Sys2Proof Sys2Proof.Machine

/-! ### The machine -/

/-- A step takes the command at the front of the queue and runs it on the state with the queue's rest. -/
def Obligations.StepTakesFrontCommand : Prop :=
  ∀ (s : State) (c : Instr) (rest : List Instr), s.pending = c :: rest → step s = exec c (s.setPending rest)

/-- Every command completes in every state: none faults and none is refused (the model's choice, log entry 21). It leaves the queue of
waiting commands and the model's tick counter as they are, a hardware reset too (the model's choice, log entry 3). A command whose event
cannot occur in the state leaves the state as it is (the model's choice, log entry 5): a strobe in COLD or without the reference (R3), the
end of a settle timer that does not count (R8), the loss of a lost reference (R7), the watchdog's expiry at the root or in COLD (R17), the
return timeout at a follower (R136), the timeout of no enumeration (R127), and a deferred emission where none is due or can be made
(R130). -/
def Obligations.EveryCommandCompletes : Prop :=
  (∀ (c : Instr) (s : State), ∃ t, exec c s = .next t) ∧
  (∀ (c : Instr) (s t : State), exec c s = .next t → t.pending = s.pending ∧ t.clock.ticks = s.clock.ticks) ∧
  ∀ s : State,
    let quiet := s.seq.runState = .cold ∨ s.seq.referencePresent = false
    (quiet → ∀ watch order, exec (.paceStrobe watch order) s = .next s) ∧
    (s.seq.runState ≠ .cold ∨ s.seq.resetN = false ∨ s.seq.referencePresent = false →
      ∀ strap, exec (.settleTimerExpiry strap) s = .next s) ∧
    (s.seq.referencePresent = false → exec .referenceLoss s = .next s) ∧
    (s.seq.role = .root ∨ s.seq.runState = .cold → exec .beatWatchdogExpiry s = .next s) ∧
    (s.seq.role = .follower → exec .returnTimeout s = .next s) ∧
    (s.handler.enumerationOutstanding = false → exec .enumerationTimeout s = .next s) ∧
    (quiet ∨ s.seq.role = .follower ∨ s.seq.runState = .idle ∨ s.root.emissionDue = false ∨ 32 ≤ s.root.outstanding.length →
      exec .deferredEmission s = .next s)

/-- On an empty queue one tick passes (log entry 4), which the free value of log entry 2 makes a REFCLK edge or a microsecond. A REFCLK
edge is the return of a lost reference (R7); in COLD it moves nothing else; elsewhere it raises the strobe count by one, and when the
count reaches the pace in force it becomes 0 and a strobe is issued (R3). A microsecond raises the monitor time and the time since the
last edge, takes one from the settle timer while it counts (R8), adds one to the enumeration timer while an enumeration is outstanding
(R127), and brings bytes to a frame in reception, kept up to the 62nd; the gap timer is 0 where bytes have come and one higher
where none has (R176); it moves nothing else. It queues the loss of a reference whose last edge is 2 µs old (R7), the expiry of each timer
that has reached its end (R8, R17, R127, R136), and the end of a frame in reception by its 62nd byte or by the gap limit of 4 µs, with the
bytes that have been delivered (R176), and no other event. -/
def Obligations.EmptyQueueTicks : Prop :=
  (∀ s : State, s.pending = [] →
     let u := s.setClock { s.clock with ticks := s.clock.ticks + 1 }
     step s = .next (if Config.tickIsReferencePeriod s.clock.ticks = true then u.referencePeriod else u.microsecond)) ∧
  (∀ s : State,
     let t := s.setClock { s.clock with sinceEdge := 0 }
     let count := s.seq.strobeCount + 1
     (s.seq.referencePresent = false → s.referencePeriod = t.setPending [.referenceReturn]) ∧
     (s.seq.referencePresent = true → s.seq.runState = .cold → s.referencePeriod = t) ∧
     (s.seq.referencePresent = true → s.seq.runState ≠ .cold → count < s.seq.paceInForce →
       s.referencePeriod = (t.setSeq { s.seq with strobeCount := count }).setPending []) ∧
     (s.seq.referencePresent = true → s.seq.runState ≠ .cold → s.seq.paceInForce ≤ count →
       ∃ watch order, s.referencePeriod = (t.setSeq { s.seq with strobeCount := 0 }).setPending [.paceStrobe watch order])) ∧
  ∀ s : State,
    let t := s.microsecond
    let due := t.pending
    let settling := s.seq.runState = .cold ∧ s.seq.resetN = true ∧ s.seq.referencePresent = true
    let receiving := s.handler.ringIn = true ∧ s.handler.reception = .receiving
    let enumerated := if s.handler.enumerationOutstanding = true then min (s.handler.enumerationTimer + 1) 65535
      else s.handler.enumerationTimer
    t = (((s.setClock { s.clock with time := s.clock.time + 1, sinceEdge := s.clock.sinceEdge + 1 }).setSeq
          { s.seq with settleTimer := if settling then s.seq.settleTimer - 1 else s.seq.settleTimer }).setHandler
          { s.handler with
            enumerationTimer := enumerated, gapTimer := t.handler.gapTimer, arrived := t.handler.arrived }).setPending due ∧
    (receiving → ∃ bytes, t.handler.arrived = (s.handler.arrived ++ bytes).take 62 ∧
      t.handler.gapTimer = if bytes = [] then s.handler.gapTimer + 1 else 0) ∧
    (¬ receiving → t.handler.arrived = s.handler.arrived ∧ t.handler.gapTimer = s.handler.gapTimer) ∧
    (.referenceLoss ∈ due ↔ s.seq.referencePresent = true ∧ 2 ≤ s.clock.sinceEdge + 1) ∧
    ((∃ strap, .settleTimerExpiry strap ∈ due) ↔ settling ∧ s.seq.settleTimer ≤ 1) ∧
    (.beatWatchdogExpiry ∈ due ↔
      s.seq.role = .follower ∧ s.seq.runState ≠ .cold ∧
        ∃ since limit, s.seq.watchdog = .running since limit ∧ limit ≤ s.clock.time + 1 - since) ∧
    (.returnTimeout ∈ due ↔
      s.seq.role = .root ∧
        ∃ e rest, s.root.outstanding = e :: rest ∧
          s.plan.live.header.returnTimeout ≤ s.clock.time + 1 - e.emissionTime) ∧
    (.enumerationTimeout ∈ due ↔
      s.seq.role = .root ∧ s.handler.enumerationOutstanding = true ∧ s.plan.live.header.returnTimeout ≤ enumerated) ∧
    (∀ bytes, .frameOverlength bytes ∈ due ↔ receiving ∧ 62 ≤ t.handler.arrived.length ∧ bytes = t.handler.arrived) ∧
    (∀ bytes, .frameGapTimeout bytes ∈ due ↔ receiving ∧ 4 ≤ t.handler.gapTimer ∧ bytes = t.handler.arrived) ∧
    ∀ c ∈ due, c = .referenceLoss ∨ (∃ strap, c = .settleTimerExpiry strap) ∨ c = .beatWatchdogExpiry ∨
      c = .returnTimeout ∨ c = .enumerationTimeout ∨ ∃ bytes, c = .frameOverlength bytes ∨ c = .frameGapTimeout bytes

/-! ### Resets, the reference, leaving COLD -/

/-- R23: power-on and pin reset give the sequencer the values of the table, and differ in the reset cause and the settle time. The role,
which R9 fixes on leaving COLD, and the level of RESET_N, which is the pin's, are no items of the table and stay free here. -/
def Obligations.HardwareResetSequencer : Prop :=
  ∀ s : State, ∃ t u, exec .powerOn s = .next t ∧ exec .pinReset s = .next u ∧
    t.seq = { runState := .cold, role := t.seq.role, step := 0, grant := 0, haltStep := none, haltKind := .pause,
              originNumber := none, resetCause := .power, referencePresent := false, referenceLost := false,
              ringSilent := false, underrunCount := 0, silenceCount := 0, referenceLossCount := 0, strobeCount := 0,
              paceInForce := 100, settleTimer := 2048, watchdog := .stopped, resetN := t.seq.resetN } ∧
    u.seq = { t.seq with resetCause := .pin, settleTimer := 128, role := u.seq.role, resetN := u.seq.resetN } ∧
    t.handler.position = none ∧ u.handler.position = none ∧
    t.plan.live.header = { pace := 100, spacing := 4, lead := 16, beatTimeout := 1000, returnTimeout := 2000 } ∧
    u.plan.live.header = t.plan.live.header

/-- What power-on and pin reset leave in the blocks other than the sequencer (R47, R57, R76, R94, R109, R128, R149, R150, R161, R162). The
kind of the closed halt record, the two timers, the reception and its bytes are the model's (log entry 3) and are not stated. That RESET_N
keeps its level at power-on is the model's choice too (log entry 3); a pin reset is its falling edge. -/
def Obligations.HardwareResetBlocks : Prop :=
  ∀ (s : State) (c : Instr), c = .powerOn ∨ c = .pinReset → ∃ t, exec c s = .next t ∧
    (∀ i : Fin 24, t.tracks[i] = { phase := 0, level := false, edges := 0, lastEdge := .noChange, closePending := false }) ∧
    (∀ i : Fin 24, t.plan.live.tracks[i] =
      { mode := .off, parent := 0, increment := 1, high := 1, low := 1, initialLevel := false, phaseOffset := 0,
        gateSource := .none, gatePolarity := .openHigh, gateStyle := .hard, restartOnActivation := true }) ∧
    (∀ i : Fin 32, t.plan.live.lanes[i] = { source := .low, invert := false, retard := 0 } ∧
      (t.lanes[i]).output = false ∧ ∀ k : Fin 16, (t.lanes[i]).history[k] = false) ∧
    (∀ i : Fin 16, (t.plan.live.cells[i]).mode = .plain ∧ (t.plan.live.cells[i]).edge = .rise ∧
      (t.plan.live.cells[i]).length = 1 ∧ (t.plan.live.cells[i]).initialOutput = false ∧
      (t.plan.live.cells[i]).selector0 = 0 ∧ (t.plan.live.cells[i]).selector1 = 0 ∧ (t.plan.live.cells[i]).selector2 = 0 ∧
      (∀ k : Fin 8, (t.plan.live.cells[i]).truth[k] = false) ∧
      t.cells[i] = { value := false, timer := 0, output := false, lastChange := .noChange }) ∧
    t.plan.live.header = { pace := 100, spacing := 4, lead := 16, beatTimeout := 1000, returnTimeout := 2000 } ∧
    t.plan.staged = t.plan.live ∧ t.plan.liveStage = 0 ∧ t.plan.pendingActivation = none ∧ t.plan.clampsAtLast = 0 ∧
    t.plan.lateCount = 0 ∧ t.plan.announced = none ∧ t.plan.nextStage = 0 ∧
    (∀ i : Fin 32, t.events.entries[i] =
      { enabled := false, type := .compare, base := .step, baseTrack := 0, value := 0, period := 0, captureCell := 0,
        captureEdge := .rise, keepFirst := false, limit := 0, gateOp := .none, gateFlag := 0, marker := none,
        requestKind := none, requestWhen := .each, remaining := 0, hits := 0, done := false }) ∧
    (∀ g : Fin 8, t.events.gates[g] = false ∧ t.events.markers[g] = false) ∧
    (∀ i : Fin 36, t.requests.waiting[i] = none ∧
      t.requests.settings[i] = { enable := true, level := if i = 33 ∨ i = 35 then 3 else 1 }) ∧
    t.requests.underrunKind = some .mark ∧ t.requests.clampKind = some .mark ∧ t.requests.mask = 0 ∧
    t.requests.droppedCount = 0 ∧ t.requests.mergedCount = 0 ∧ t.requests.cancelCount = 0 ∧ t.requests.placedCount = 0 ∧
    t.handler =
      { ringIn := false, ringOut := false, reception := t.handler.reception, gapTimer := t.handler.gapTimer
        arrived := t.handler.arrived, position := none, sending := none, queue := []
        checkErrors := 0, unknowns := 0, outputDrops := 0, enumerationOutstanding := false
        enumerationTimer := t.handler.enumerationTimer, ringSize := none, excessCount := 0, enumerationLost := false } ∧
    t.root =
      { rootGrant := 0, target := none, nextSequence := 0, emissionCount := 0, emissionDue := false, outstanding := []
        notices := [], lastNotice := none, announcedOrigin := none, originOutstanding := false
        ringUnsynchronised := false, leadShort := false, largestRoundTrip := 0, lostCount := 0, foreignCount := 0
        deferredCount := 0, noticeDropCount := 0
        haltRecord :=
          { isOpen := false, kind := t.root.haltRecord.kind, haltStep := none, decisionStep := none, entries := []
            overflowCount := 0 } } ∧
    t.cursor = { table := .trackStaged, index := 0 } ∧ t.seq.resetN = (if c = .powerOn then s.seq.resetN else false)

/-- R8: RESET_N_RELEASE lets the settle timer count; at the settle timer's end the part fixes its role, turns its ports on, starts the
watchdog at a follower and enters IDLE, and nothing else changes. COLD is entered by power-on and pin reset alone, and left at the
settle timer's end alone. -/
def Obligations.LeavingCold : Prop :=
  ((∀ s : State, exec .resetNRelease s = .next (s.setSeq { s.seq with resetN := true })) ∧
   ∀ (s : State) (strap : Bool), s.seq.runState = .cold → s.seq.resetN = true → s.seq.referencePresent = true →
     exec (.settleTimerExpiry strap) s =
       .next ((s.setSeq { s.seq with
           settleTimer := 0, runState := .idle
           role := if strap = true then .root else .follower
           watchdog := if strap = true then s.seq.watchdog else .running s.clock.time s.plan.live.header.beatTimeout }).setHandler
         { s.handler with
           ringIn := true, ringOut := true, position := if strap = true then some 0 else none })) ∧
  (∀ (c : Instr) (s t : State), exec c s = .next t →
     (t.seq.runState = .cold → s.seq.runState = .cold ∨ c = .powerOn ∨ c = .pinReset) ∧
     (s.seq.runState = .cold → s.handler.ringIn = false → t.seq.runState ≠ .cold → ∃ strap, c = .settleTimerExpiry strap))

/-- R9: the role is taken from ROOTSEL when COLD is left, high giving ROOT with position 0 and low FOLLOWER with none, and it is kept
until the next power-on or pin reset, whatever the strap does. -/
def Obligations.RoleFixedOnLeavingCold : Prop :=
  (∀ (s : State) (strap : Bool), s.seq.runState = .cold → s.seq.resetN = true → s.seq.referencePresent = true →
    ∃ t, exec (.settleTimerExpiry strap) s = .next t ∧
      (strap = true → t.seq.role = .root ∧ t.handler.position = some 0) ∧
      (strap = false → t.seq.role = .follower ∧ t.handler.position = none)) ∧
  ∀ (c : Instr) (s t : State), s.seq.runState ≠ .cold → c ≠ .powerOn → c ≠ .pinReset → exec c s = .next t →
    t.seq.role = s.seq.role

/-- R7: the effect of a declaration of loss by run state (settling restarts by R8, the strobe count is cleared by R3, a stranded root
closes its halt record by R142), and of the reference's return. -/
def Obligations.ReferenceLossAndReturn : Prop :=
  (∀ s : State, s.seq.referencePresent = true →
    let q : Sequencer := { s.seq with referencePresent := false, strobeCount := 0 }
    let lost : Sequencer :=
      { q with referenceLost := true, referenceLossCount := min (s.seq.referenceLossCount + 1) 65535 }
    (s.seq.runState = .cold →
      exec .referenceLoss s =
        .next (s.setSeq { q with settleTimer := if s.seq.resetCause = .power then 2048 else 128 })) ∧
    (s.seq.runState = .run ∨ s.seq.runState = .halting →
      (s.seq.role = .follower → exec .referenceLoss s = .next (s.setSeq { lost with runState := .stranded })) ∧
      (s.seq.role = .root → exec .referenceLoss s =
        .next ((s.setSeq { lost with runState := .stranded }).setRoot
          { s.root with haltRecord := { s.root.haltRecord with isOpen := false } }))) ∧
    (s.seq.runState ≠ .cold → s.seq.runState ≠ .run → s.seq.runState ≠ .halting →
      exec .referenceLoss s = .next (s.setSeq lost))) ∧
  ∀ s : State, exec .referenceReturn s =
    .next ((s.setSeq { s.seq with referencePresent := true }).setClock { s.clock with sinceEdge := 0 })

/-! ### Laws of the device -/

/-- The state right after reset meets every law. The laws of the grant and of the ring position hold the role FOLLOWER in COLD, and the
law of a follower's timebase the kind PAUSE of the closed halt record: both are the model's choices (log entry 3). -/
def Obligations.ResetMeetsLaws : Prop :=
  State.reset.PortsLaw ∧ State.reset.TrackLaw ∧ State.reset.LaneLaw ∧ State.reset.CellLaw ∧ State.reset.EventLaw ∧
    State.reset.RequestLaw ∧ State.reset.QueueLaw ∧ State.reset.GrantLaw ∧ State.reset.PositionLaw ∧ State.reset.CursorLaw ∧
    State.reset.FollowerLaw ∧ State.reset.CountLaw

/-- Every step keeps the law of R26: φ below the span of the level, live increments at or below both spans, FOLLOW parents of lower
index; and close-pending set in a high phase under a CLEAN gate only (R40). -/
def Obligations.StepKeepsTrackLaw : Prop := ∀ s t : State, s.TrackLaw → step s = .next t → t.TrackLaw

/-- Every step keeps each lane's output at entry r of its history, inverted where set (R49), and the law of R70: a cell's timer never
exceeds its N, and a FILTER's or COUNT's count stays below it. -/
def Obligations.StepKeepsLaneAndCellLaw : Prop :=
  ∀ s t : State, step s = .next t → (s.LaneLaw → t.LaneLaw) ∧ (s.CellLaw → t.CellLaw)

/-- Every step keeps an entry with a nonzero limit that is not done at a remaining of at least 1 (R78); and every pending request's source
qualifying and the record at the source's level (R99, R100, R102), with sources 33 and 35 as R97 fixes them. -/
def Obligations.StepKeepsEventAndRequestLaw : Prop :=
  ∀ s t : State, step s = .next t → (s.EventLaw → t.EventLaw) ∧ (s.RequestLaw → t.RequestLaw)

/-- Every step keeps the laws of R133 and R142, the bound of the output queue (R111), the cursor's index at most its table's size (R162),
and the saturating counts at most 65535. -/
def Obligations.StepKeepsQueueLaw : Prop :=
  ∀ s t : State, step s = .next t →
    (s.QueueLaw → t.QueueLaw) ∧ (s.CursorLaw → t.CursorLaw) ∧ (s.CountLaw → t.CountLaw)

/-- Every step keeps both ports OFF in COLD and ON elsewhere (R110); C at most G, and at the root G equal to G_root and, from a halt
decision on, to F (R2, R4, R16, R139); the ring position: none in COLD, 0 at the root, at a follower another one exactly in the numbered
states (R9, R103, R126); and the root timebase of a follower at its reset values. The role FOLLOWER in COLD, and the kind PAUSE of a halt
record at its reset values, are the model's choices (log entry 3). -/
def Obligations.StepKeepsGrantLaw : Prop :=
  ∀ s t : State, s.PortsLaw → s.GrantLaw → s.PositionLaw → s.FollowerLaw → step s = .next t →
    t.PortsLaw ∧ t.GrantLaw ∧ t.PositionLaw ∧ t.FollowerLaw

/-- R2: C rises only at a strobe, by one and not past G. C or G falls only where both restart from 0: at power-on and pin reset, at ORIGIN
and RESET_PART in any row that brings them, and at a beat frame that performs origin at a follower; C is then 0. A start mark with a frame
in reception brings the frame of the bytes that have been delivered (R177; log entry 6). -/
def Obligations.StepCounterRisesAtStrobesOnly : Prop :=
  ∀ (c : Instr) (s t : State), s.GrantLaw → exec c s = .next t →
    (s.seq.step < t.seq.step → t.seq.step = s.seq.step + 1 ∧ t.seq.step ≤ t.seq.grant ∧ ∃ watch order, c = .paceStrobe watch order) ∧
    (t.seq.step < s.seq.step ∨ t.seq.grant < s.seq.grant →
      t.seq.step = 0 ∧
        (c = .powerOn ∨ c = .pinReset ∨ s.takesCommand c 0x0B ∨ s.takesCommand c 0x14 ∨
          ∃ bytes, s.frameCompleted c = some bytes ∧ s.seq.role = .follower ∧ BeatBytes bytes ∧
            s.seq.mustOrigin (readBeat bytes) = true))

/-! ### Strobes -/

/-- R5, R157: the taking of a step. With no activation due, every block computes step C+1 from the blocks as they stood before it and the
watch lines of the strobe, the lanes record the levels the walk leaves, and C becomes C+1; nothing else changes. An activation due at the
step is applied before anything else, and then the step is taken in the state the activation leaves; at the root, a timeout that the new
header has already reached expires at once, as the step ends (R159; its place is log entry 25). A strobe at a follower in RUN with C below
G is that step, with the strobe count at 0 and the pace loaded. -/
def Obligations.FollowerStrobeTakesStep : Prop :=
  (∀ (s : State) (watch : BitVec 16),
     let n := s.seq.step + 1
     let tracks := walkTracks s.plan.live.tracks s.events.gates s.cells s.tracks
     ((∀ a ∈ s.plan.pendingActivation, a.step ≠ n) →
       s.takeStep watch =
         (((((s.setTracks tracks).setLanes (recordLanes s.plan.live.lanes s.lanes tracks n)).setCells
           (stepCells s.plan.live.cells s.cells s.tracks s.events.gates watch)).setEvents
           (s.events.stepped n s.tracks s.cells)).setRequests (s.events.raiseAll n s.tracks s.cells s.requests)).setSeq
           { s.seq with step := n }) ∧
     ∀ a, s.plan.pendingActivation = some a → a.step = n →
       s.takeStep watch = ((s.activate a).takeStep watch).expireOverdue ∧
         (s.seq.role = .follower → s.takeStep watch = (s.activate a).takeStep watch)) ∧
  (∀ (s : State) (watch : BitVec 16) (order : StrobeOrder), s.seq.role = .follower → s.seq.runState = .run →
     s.seq.referencePresent = true → s.seq.step < s.seq.grant →
     (∀ a ∈ s.plan.pendingActivation, a.step ≠ s.seq.step + 1) →
     ∃ t, exec (.paceStrobe watch order) s = .next t ∧
       t.seq = { s.seq with step := s.seq.step + 1, strobeCount := 0, paceInForce := s.plan.live.header.pace } ∧
       t.tracks = walkTracks s.plan.live.tracks s.events.gates s.cells s.tracks ∧
       t.lanes = recordLanes s.plan.live.lanes s.lanes t.tracks (s.seq.step + 1) ∧
       t.cells = stepCells s.plan.live.cells s.cells s.tracks s.events.gates watch ∧
       t.events = s.events.stepped (s.seq.step + 1) s.tracks s.cells ∧
       t.requests = s.events.raiseAll (s.seq.step + 1) s.tracks s.cells s.requests ∧
       t.handler = s.handler ∧ t.root = s.root ∧ t.plan = s.plan ∧ t.cursor = s.cursor ∧ t.clock = s.clock ∧
       t.pending = s.pending) ∧
  (∀ (s : State) (watch : BitVec 16) (order : StrobeOrder) (a : Activation), s.seq.role = .follower → s.seq.runState = .run →
     s.seq.referencePresent = true → s.seq.step < s.seq.grant → s.plan.pendingActivation = some a →
     a.step = s.seq.step + 1 →
     ∃ t, exec (.paceStrobe watch order) s = .next t ∧ exec (.paceStrobe watch order) (s.activate a) = .next t ∧
       t.plan.live = s.plan.staged.clamped ∧ t.plan.staged = s.plan.staged ∧ t.plan.liveStage = a.stage ∧
       t.plan.pendingActivation = none ∧ t.seq.step = s.seq.step + 1 ∧ t.seq.paceInForce = s.plan.staged.header.pace)

/-- R6: a strobe in RUN with C = G takes no step; C, G and every per-step block stay, the underrun count rises by one, stopping at 65535,
and UNDERRUN is raised with the kind of the source table and the step that was not taken (2^48 at the end of the count: log entry 29). At a
follower that is the whole strobe. R4: a strobe at a follower in IDLE, READY, HALTED, BROKEN or STRANDED, or in HALTING with C = G or
C = F, takes no step and counts nothing. -/
def Obligations.StrobeWithoutStep : Prop :=
  ((∀ (s : State) (watch : BitVec 16), s.seq.runState = .run → s.seq.step = s.seq.grant →
     s.actOnStrobe watch =
       (s.setSeq { s.seq with underrunCount := min (s.seq.underrunCount + 1) 65535 }).setRequests
         (s.requests.raise 32 s.requests.underrunKind (s.seq.step + 1))) ∧
   ∀ (s : State) (watch : BitVec 16) (order : StrobeOrder), s.seq.role = .follower → s.seq.runState = .run →
     s.seq.referencePresent = true → s.seq.step = s.seq.grant →
     exec (.paceStrobe watch order) s =
       .next ((s.setSeq { s.seq with
           underrunCount := min (s.seq.underrunCount + 1) 65535, strobeCount := 0
           paceInForce := s.plan.live.header.pace }).setRequests
         (s.requests.raise 32 s.requests.underrunKind (s.seq.step + 1)))) ∧
  (∀ (s : State) (watch : BitVec 16) (order : StrobeOrder), s.seq.role = .follower → s.seq.referencePresent = true →
     s.seq.runState ≠ .cold → s.seq.runState ≠ .run →
     (s.seq.runState = .halting → s.seq.step = s.seq.grant ∨ s.seq.haltStep = some s.seq.step) →
     exec (.paceStrobe watch order) s =
       .next (s.setSeq { s.seq with strobeCount := 0, paceInForce := s.plan.live.header.pace }))

/-- R15: a follower in HALTING takes a step at each strobe while C is below F (and G, which is F, R4); the strobe that takes step F ends the
halt in HALTED or BROKEN by the kind as it stands, which a HALT frame read in HALTING sets. -/
def Obligations.HaltingEndsAtHaltStep : Prop :=
  (∀ (s : State) (watch : BitVec 16) (order : StrobeOrder) (f : Nat), s.seq.role = .follower → s.seq.runState = .halting →
    s.seq.referencePresent = true → s.seq.haltStep = some f → s.seq.step < f → s.seq.step < s.seq.grant →
    ∃ t, exec (.paceStrobe watch order) s = .next t ∧ t.seq.step = s.seq.step + 1 ∧ t.seq.haltStep = some f ∧
      t.seq.haltKind = s.seq.haltKind ∧ t.seq.grant = s.seq.grant ∧
      (s.seq.step + 1 < f → t.seq.runState = .halting) ∧
      (s.seq.step + 1 = f → s.seq.haltKind = .pause → t.seq.runState = .halted) ∧
      (s.seq.step + 1 = f → s.seq.haltKind = .brk → t.seq.runState = .broken)) ∧
  ∀ (q : Sequencer) (f : BeatFields), q.runState = .halting → q.synchronised = true → f.mode = .halt →
    q.step < f.haltStep →
    q.readFields f =
      { q with grant := max q.grant f.grant, haltStep := some f.haltStep, haltKind := f.haltKind, runState := .halting }

/-! ### Tracks -/

/-- R28: a track advances in FREE, or in FOLLOW when its parent produced a rising edge in the step, and only if its gate allows it; in OFF
it does not advance. R37: when the gate is read open, by source and polarity. R38, R39: an open gate allows the advance; a closed HARD
gate forbids it; a closed CLEAN gate allows it while the level was 1 when the step began. R40: the close-pending flag is set where the
gate is CLEAN and closed and the level was 1 and is still 1, cleared where the gate is open or the level is 0 after the step, and kept
elsewhere. R29: an advance adds the increment and compares the sum once with the span of the level the step began with; under the law of
R26 the remainder after a crossing is below the span of the new level. -/
def Obligations.TrackAdvances : Prop :=
  (∀ (r : TrackRecord) (isOpen parentRose level : Bool),
     r.advances isOpen parentRose level = true ↔
       (r.mode = .free ∨ r.mode = .follow ∧ parentRose = true) ∧ r.gateAllows isOpen level = true) ∧
  (∀ (r : TrackRecord) (level : Bool), r.gateAllows true level = true ∧
     (r.gateStyle = .hard → r.gateAllows false level = false) ∧
     (r.gateStyle = .clean → r.gateAllows false level = level)) ∧
  (∀ (r : TrackRecord) (flags : Vector Bool 8) (cells : Vector CellRun 16),
     (r.gateSource = .none → r.gateOpen flags cells = true) ∧
     (∀ g, r.gateSource = .flag g →
       (r.gatePolarity = .openHigh → r.gateOpen flags cells = flags[g]) ∧
       (r.gatePolarity = .openLow → r.gateOpen flags cells = !flags[g])) ∧
     ∀ c, r.gateSource = .cell c →
       (r.gatePolarity = .openHigh → r.gateOpen flags cells = (cells[c]).output) ∧
       (r.gatePolarity = .openLow → r.gateOpen flags cells = !(cells[c]).output)) ∧
  (∀ (r : TrackRecord) (old isOpen before after : Bool),
     (isOpen = true ∨ after = false → r.closePendingAfter old isOpen before after = false) ∧
     (isOpen = false → r.gateStyle = .clean → before = true → after = true →
       r.closePendingAfter old isOpen before after = true) ∧
     (isOpen = false → after = true → r.gateStyle ≠ .clean ∨ before = false →
       r.closePendingAfter old isOpen before after = old)) ∧
  ∀ (t : TrackRun) (r : TrackRecord), r.increment ≤ min r.high r.low → t.phase < r.span t.level →
    let sum := t.phase + r.increment
    (t.level = true → r.high ≤ sum →
      t.advance r = { t with phase := sum - r.high, level := false, lastEdge := .fall } ∧ sum - r.high < r.low) ∧
    (t.level = false → r.low ≤ sum →
      t.advance r = { t with
        phase := sum - r.low, level := true, lastEdge := .rise, edges := (t.edges + 1) % 2 ^ 32 } ∧ sum - r.low < r.high) ∧
    (sum < r.span t.level → t.advance r = { t with phase := sum, lastEdge := .noChange })

/-- R27, R30: the walk computes the tracks in ascending index, each from its own state, its gate as the step began, and the edge that a
parent of lower index has just produced; a track that does not advance keeps φ, level and E with last-step edge NONE. That a parent of no
lower index, which the law of R26 rules out, gives no edge is log entry 18. -/
def Obligations.WalkInAscendingIndex : Prop :=
  ∀ (records : Vector TrackRecord 24) (flags : Vector Bool 8) (cells : Vector CellRun 16) (tracks : Vector TrackRun 24)
    (i : Fin 24),
    let after := walkTracks records flags cells tracks
    let r := records[i]
    let rose := decide (r.parent < i ∧ (after[r.parent]).lastEdge = .rise)
    let allowed := r.advances (r.gateOpen flags cells) rose (tracks[i]).level
    let moved := if allowed = true then (tracks[i]).advance r else { tracks[i] with lastEdge := .noChange }
    after[i] = { moved with
      closePending := r.closePendingAfter (tracks[i]).closePending (r.gateOpen flags cells) (tracks[i]).level moved.level }

/-- R35: over any H + Lw consecutive advances a track under the law of R26 produces exactly as many rising edges as its increment, and as
many falling edges, and comes back to the phase and level it began with. -/
def Obligations.EdgesOverOneTurn : Prop :=
  ∀ (t : TrackRun) (r : TrackRecord), 1 ≤ r.increment → r.increment ≤ min r.high r.low → t.phase < r.span t.level →
    let run := fun k => (fun x : TrackRun => x.advance r)^[k] t
    (run (r.high + r.low)).phase = t.phase ∧ (run (r.high + r.low)).level = t.level ∧
      (run (r.high + r.low)).edges % 2 ^ 32 = (t.edges + r.increment) % 2 ^ 32 ∧
      ((List.range (r.high + r.low)).filter fun k => (run (k + 1)).lastEdge == .rise).length = r.increment ∧
      ((List.range (r.high + r.low)).filter fun k => (run (k + 1)).lastEdge == .fall).length = r.increment

/-- R43, R44: the running state a restart sets, and what an activation leaves of a track: restarted, or kept with φ lowered below the span
of its level under the new record and close-pending kept under a gated CLEAN record only (R40). -/
def Obligations.RestartAndActivationOfTracks : Prop :=
  ∀ (r : TrackRecord) (t : TrackRun), 1 ≤ r.high → 1 ≤ r.low →
    r.restarted.level = r.initialLevel ∧ r.restarted.phase = min r.phaseOffset (r.span r.initialLevel - 1) ∧
      r.restarted.phase < r.span r.initialLevel ∧ r.restarted.edges = 0 ∧ r.restarted.lastEdge = .noChange ∧
      r.restarted.closePending = false ∧
      (r.restartOnActivation = true → r.activated t = r.restarted) ∧
      (r.restartOnActivation = false →
        (r.activated t).level = t.level ∧ (r.activated t).edges = t.edges ∧ (r.activated t).lastEdge = t.lastEdge ∧
        (r.activated t).phase = min t.phase (r.span t.level - 1) ∧
        ((r.activated t).closePending = true ↔
          t.closePending = true ∧ r.gateSource ≠ .none ∧ r.gateStyle = .clean))

/-! ### Lanes and cells -/

/-- R51: the value of a lane's source. R50, R49: at a step every lane shifts it into its history, and its output is entry r of the history,
complemented if invert is yes; R53: a fill sets all sixteen entries to it. R55: the pins are low in COLD and show the outputs elsewhere.
R52: after a fill with value v and the recording of any source values, newest last, a lane's output is the value recorded r steps ago, or
v for a step before the fill, complemented if invert is yes. -/
def Obligations.LaneShowsRetardedSource : Prop :=
  (∀ (source : LaneSource) (tracks : Vector TrackRun 24) (step : Nat),
     (∀ t, source = .track t → source.value tracks step = (tracks[t]).level) ∧
     (source = .parity → (source.value tracks step = true ↔ step % 2 = 1)) ∧
     (source = .low → source.value tracks step = false)) ∧
  (∀ (records : Vector LaneRecord 32) (lanes : Vector LaneRun 32) (tracks : Vector TrackRun 24) (step : Nat) (i : Fin 32),
     let r := records[i]
     let v := r.source.value tracks step
     let l := (recordLanes records lanes tracks step)[i]
     let filled := (fillLanes records tracks step)[i]
     (∀ k : Fin 16, l.history[k] = if h : k.val = 0 then v else (lanes[i]).history[k.val - 1]) ∧
       l.output = ((l.history[r.retard]) ^^ r.invert) ∧
       (∀ k : Fin 16, filled.history[k] = v) ∧ filled.output = (v ^^ r.invert)) ∧
  (∀ (s : State) (lane : Fin 32), s.lanePin lane = true ↔ s.seq.runState ≠ .cold ∧ (s.lanes[lane]).output = true) ∧
  ∀ (r : LaneRecord) (fill : Bool) (recorded : List Bool),
    r.outputOf (recorded.foldl recordValue (Vector.replicate 16 fill)) =
      ((recorded.reverse.getD r.retard.val fill) ^^ r.invert)

/-- R60, R61: the sixty-four selectors, and the entry 4 × in2 + 2 × in1 + in0 of the truth table. R62: a step takes every cell from the
state as it began: the new value, the timer and output of the mode's table, and the last-step change of the output. R63: which changes of
the value qualify. R72: a restart takes the value of the restart inputs, timer 0, the initial output and no change. R64 to R69: the tables
of the six timer modes. -/
def Obligations.CellInputsAndModeTables : Prop :=
  ((∀ (watch : Fin 16 → Bool) (track : Fin 24 → Bool) (cell : Fin 16 → Bool) (gate : Fin 8 → Bool) (n : Fin 64),
     (∀ h : n.val < 16, selected watch track cell gate n = watch ⟨n.val, h⟩) ∧
     (∀ t : Fin 24, n.val = 16 + t.val → selected watch track cell gate n = track t) ∧
     (∀ c : Fin 16, n.val = 40 + c.val → selected watch track cell gate n = cell c) ∧
     ∀ g : Fin 8, n.val = 56 + g.val → selected watch track cell gate n = gate g) ∧
   ∀ (c : CellConfig) (read : Fin 64 → Bool) (k : Fin 8),
     k.val = 4 * (read c.selector2).toNat + 2 * (read c.selector1).toNat + (read c.selector0).toNat →
       c.truthValue read = c.truth[k]) ∧
  (∀ (edge : CellEdge) (old new : Bool),
     edge.qualifies old new = true ↔
       edge ≠ .fall ∧ old = false ∧ new = true ∨ edge ≠ .rise ∧ old = true ∧ new = false) ∧
  (∀ (configs : Vector CellConfig 16) (cells : Vector CellRun 16) (tracks : Vector TrackRun 24) (flags : Vector Bool 8)
     (watch : BitVec 16) (i : Fin 16),
     let read := selected (fun k => watch.getLsbD k.val) (fun t => (tracks[t]).level) (fun c => (cells[c]).output)
       (fun g => flags[g])
     let before := cells[i]
     let after := (stepCells configs cells tracks flags watch)[i]
     after.value = (configs[i]).truthValue read ∧
       (after.timer, after.output) = (configs[i]).timed before.timer before.output before.value after.value ∧
       (after.lastChange = .rise ↔ before.output = false ∧ after.output = true) ∧
       (after.lastChange = .fall ↔ before.output = true ∧ after.output = false)) ∧
  (∀ (configs : Vector CellConfig 16) (cells : Vector CellRun 16) (restarts : Fin 16 → Bool) (tracks : Vector TrackRun 24)
     (flags : Vector Bool 8) (i : Fin 16),
     let after := restartCells configs cells restarts tracks flags
     let read := selected (fun _ => false) (fun t => (tracks[t]).level) (fun c => (after[c]).output) (fun g => flags[g])
     (restarts i = false → after[i] = cells[i]) ∧
     (restarts i = true →
       after[i] = { value := (configs[i]).truthValue read, timer := 0, output := (configs[i]).initialOutput
                    lastChange := .noChange })) ∧
  (∀ (c : CellConfig) (timer : Nat) (output old new : Bool), 1 ≤ c.length → timer ≤ c.length →
     let q := c.edge.qualifies old new
     let after := c.timed timer output old new
     (c.mode = .plain → after = (0, new)) ∧
     (c.mode = .filter →
       (new = output → after = (0, output)) ∧
       (new ≠ output → timer + 1 < c.length → after = (timer + 1, output)) ∧
       (new ≠ output → timer + 1 = c.length → after = (0, new))) ∧
     (c.mode = .stretch →
       (output = false → q = true → after = (1, true)) ∧ (output = false → q = false → after = (0, false)) ∧
       (output = true → timer < c.length → after = (timer + 1, true)) ∧
       (output = true → timer = c.length → after = (0, false))) ∧
     (c.mode = .count →
       (q = true → timer + 1 < c.length → after = (timer + 1, false)) ∧
       (q = true → timer + 1 = c.length → after = (0, true)) ∧ (q = false → after = (timer, false))) ∧
     (c.mode = .settle →
       (q = true → after = (c.length, false)) ∧ (q = false → old ≠ new → after = (0, false)) ∧
       (old = new → timer = 0 → after = (0, false)) ∧ (old = new → 1 < timer → after = (timer - 1, false)) ∧
       (old = new → timer = 1 → after = (0, true))) ∧
     (c.mode = .rate →
       (q = true → 0 < timer → after = (c.length, true)) ∧ (q = true → timer = 0 → after = (c.length, false)) ∧
       (q = false → 1 < timer → after = (timer - 1, output)) ∧ (q = false → timer = 1 → after = (0, false)) ∧
       (q = false → timer = 0 → after = (0, false))))

/-- R66: in STRETCH a qualifying change that finds the output low holds it high after that step and the N−1 steps that follow, and it is
low after the next one, whatever the values are. R68: in SETTLE a qualifying change that is followed by steps without a change gives
output 1 after the Nth of them, and after no other one. -/
def Obligations.StretchAndSettleRuns : Prop :=
  (∀ (c : CellConfig) (timer : Nat) (old new : Bool) (values : List Bool), c.mode = .stretch → 1 ≤ c.length →
     c.edge.qualifies old new = true → values.length ≤ c.length →
     (cellOver c (new :: values) old (timer, false)).2 = decide (values.length < c.length)) ∧
  (∀ (c : CellConfig) (timer quiet : Nat) (output old new : Bool), c.mode = .settle → 1 ≤ c.length →
     c.edge.qualifies old new = true →
     (cellOver c (new :: List.replicate quiet new) old (timer, output)).2 = decide (quiet = c.length))

/-! ### Activations -/

/-- R157, R158, R44, R54, R74: an application copies the staged bank with its clamps into the live bank, sets the live stage and the
number of clamps made, and ends the lock; each track restarts or is kept; a lane whose record changed is filled and a cell whose
configuration changed restarts, with the value its restart inputs give (R72), and the others stay; PLAN_CLAMP is raised with the
activation step if clamps were made. Nothing else changes. -/
def Obligations.ActivationApplies : Prop :=
  ∀ (s : State) (a : Activation),
    let t := s.activate a
    let staged := s.plan.staged
    let live := t.plan.live
    let misparented := fun i : Fin 24 => (staged.tracks[i]).mode = .follow ∧ i ≤ (staged.tracks[i]).parent
    let tooFast := fun i : Fin 24 => min (staged.tracks[i]).high (staged.tracks[i]).low < (staged.tracks[i]).increment
    let tooFar := fun i : Fin 24 =>
      (live.tracks[i]).restartOnActivation = false ∧ (live.tracks[i]).span (s.tracks[i]).level ≤ (s.tracks[i]).phase
    let clamps := staged.recordClamps + ((List.finRange 24).filter fun i => decide (tooFar i)).length
    staged.recordClamps =
      ((List.finRange 24).filter fun i => decide (misparented i)).length +
        ((List.finRange 24).filter fun i => decide (tooFast i)).length +
        (if staged.header.lead < staged.header.spacing then 1 else 0) ∧
    live = staged.clamped ∧ live.lanes = staged.lanes ∧ live.cells = staged.cells ∧
    live.header = { staged.header with lead := max staged.header.lead staged.header.spacing } ∧
    (∀ i : Fin 24, live.tracks[i] = { staged.tracks[i] with
      mode := if misparented i then .free else (staged.tracks[i]).mode
      increment := min (staged.tracks[i]).increment (min (staged.tracks[i]).high (staged.tracks[i]).low) }) ∧
    t.plan = { s.plan with live, liveStage := a.stage, pendingActivation := none, clampsAtLast := clamps } ∧
    (∀ i : Fin 24, t.tracks[i] = (live.tracks[i]).activated s.tracks[i]) ∧
    (∀ i : Fin 32,
      (s.plan.live.lanes[i] = live.lanes[i] → t.lanes[i] = s.lanes[i]) ∧
      (s.plan.live.lanes[i] ≠ live.lanes[i] →
        (∀ k : Fin 16, (t.lanes[i]).history[k] = (live.lanes[i]).source.value t.tracks s.seq.step) ∧
        (t.lanes[i]).output = ((live.lanes[i]).source.value t.tracks s.seq.step ^^ (live.lanes[i]).invert))) ∧
    (∀ i : Fin 16,
      (s.plan.live.cells[i] = live.cells[i] → t.cells[i] = s.cells[i]) ∧
      (s.plan.live.cells[i] ≠ live.cells[i] →
        t.cells[i] =
          { value := (live.cells[i]).truthValue
              (selected (fun _ => false) (fun k => (t.tracks[k]).level) (fun c => (t.cells[c]).output)
                (fun g => s.events.gates[g]))
            timer := 0, output := (live.cells[i]).initialOutput, lastChange := .noChange })) ∧
    t.requests = (if clamps = 0 then s.requests else s.requests.raise 34 s.requests.clampKind a.step) ∧
    t.seq = s.seq ∧ t.events = s.events ∧ t.handler = s.handler ∧ t.root = s.root ∧ t.cursor = s.cursor ∧ t.clock = s.clock ∧
    t.pending = s.pending

/-- R155, R156, R160: what a follower makes of the ACTIVATE fields of a beat frame: nothing for a flag clear, the live stage, or the stage
it holds pending at that step; else the activation becomes pending, and is applied as origin applies it (step 0, at the frame's origin),
with PLAN_CLAMP at cause step 0 if its record clamps were made, or late, or left pending. -/
def Obligations.FollowerLearnsActivation : Prop :=
  ∀ (s : State) (f : BeatFields) (originPerformed : Bool),
    let a : Activation := { stage := f.stage, step := f.activationStep }
    let t := s.readActivation f originPerformed
    let held := s.setPlan { s.plan with pendingActivation := some a }
    let atOrigin := originPerformed = true ∧ f.activationStep = 0
    let clamps := s.plan.staged.recordClamps
    let late := s.seq.runState ∈ [.ready, .run, .halting, .halted, .broken] ∧ s.seq.originNumber ≠ none ∧ f.activationStep ≤ s.seq.step
    (f.activateFlag = false ∨ f.stage = s.plan.liveStage ∨ s.plan.pendingActivation = some a → t = s) ∧
    (f.activateFlag = true → f.stage ≠ s.plan.liveStage → s.plan.pendingActivation ≠ some a →
      (atOrigin →
        t.plan = { s.plan with
          live := s.plan.staged.clamped, liveStage := f.stage, pendingActivation := none, clampsAtLast := clamps } ∧
          (∀ i : Fin 24, t.tracks[i] = (t.plan.live.tracks[i]).restarted) ∧
          t.lanes = fillLanes t.plan.live.lanes t.tracks s.seq.step ∧
          t.cells = restartCells t.plan.live.cells s.cells (fun _ => true) t.tracks (Vector.replicate 8 false) ∧
          t.requests = (if clamps = 0 then s.requests else s.requests.raise 34 s.requests.clampKind 0) ∧
          t.seq = s.seq ∧ t.events = s.events ∧ t.handler = s.handler ∧ t.root = s.root) ∧
      (¬ atOrigin → late →
        t = ((held.activate a).setPlan { (held.activate a).plan with lateCount := min (s.plan.lateCount + 1) 65535 }).setRequests
          ((held.activate a).requests.raise 35 (some .brk) f.activationStep)) ∧
      (¬ atOrigin → ¬ late → t = held))

/-! ### Events, flags, markers -/

/-- R80 to R83: when an entry matches. R84, R85: what a match does to a COMPARE entry, which its limit and its period can each make done;
and to a CAPTURE entry, which stores s−1 or the edge count unless keep-first holds an earlier capture, and which only its limit makes
done. R86: EACH raises at every match and LAST at the match that brings remaining to 0, with cause step s for COMPARE and s−1 for CAPTURE;
each raise of a step reaches its own source in the request unit as a single raise does, and the counts rise by their number. -/
def Obligations.EntriesAndTheirMatches : Prop :=
  (∀ (e : EventEntry) (step : Nat) (tracks : Vector TrackRun 24) (cells : Vector CellRun 16),
     let examined := e.enabled = true ∧ e.done = false
     let track := tracks[e.baseTrack]
     let change := (cells[e.captureCell]).lastChange
     (e.type = .compare → e.base = .step → (e.matches_ step tracks cells = true ↔ examined ∧ step = e.value)) ∧
     (e.type = .compare → e.base = .edges →
       (e.matches_ step tracks cells = true ↔ examined ∧ track.lastEdge = .rise ∧ track.edges = e.value % 2 ^ 32)) ∧
     (e.type = .capture → e.captureEdge = .rise → (e.matches_ step tracks cells = true ↔ examined ∧ change = .rise)) ∧
     (e.type = .capture → e.captureEdge = .fall → (e.matches_ step tracks cells = true ↔ examined ∧ change = .fall)) ∧
     (e.matches_ step tracks cells = false → e.stepped step tracks cells = e) ∧
     (∀ k, e.raises step tracks cells = some k ↔
       e.matches_ step tracks cells = true ∧ e.requestKind = some k ∧
         (e.requestWhen = .last → e.limit ≠ 0 ∧ (e.stepped step tracks cells).remaining = 0)) ∧
     (e.type = .compare → e.causeStep step = step) ∧ (e.type = .capture → e.causeStep step = step - 1)) ∧
  (∀ (t : EventTable) (step : Nat) (tracks : Vector TrackRun 24) (cells : Vector CellRun 16) (u : RequestUnit),
     let after := t.raiseAll step tracks cells u
     let source := fun i : Fin 32 => (⟨i.val, by omega⟩ : Fin 36)
     let kind := fun i : Fin 32 => (t.entries[i]).raises step tracks cells
     let dropped := (List.finRange 32).filter fun i => (kind i).isSome && !u.qualifies (source i)
     let merged := (List.finRange 32).filter fun i =>
       (kind i).isSome && u.qualifies (source i) && (u.waiting[source i]).isSome
     (∀ i : Fin 32,
       after.waiting[source i] = (u.raise (source i) (kind i) ((t.entries[i]).causeStep step)).waiting[source i]) ∧
     (∀ j : Fin 36, 32 ≤ j.val → after.waiting[j] = u.waiting[j]) ∧
     after = { u with
       waiting := after.waiting
       droppedCount := if dropped = [] then u.droppedCount else min (u.droppedCount + dropped.length) 65535
       mergedCount := if merged = [] then u.mergedCount else min (u.mergedCount + merged.length) 65535 }) ∧
  (∀ (e : EventEntry) (step : Nat) (tracks : Vector TrackRun 24) (cells : Vector CellRun 16),
     e.type = .compare → e.matches_ step tracks cells = true →
     let after := e.stepped step tracks cells
     let left := if e.limit = 0 then e.remaining else e.remaining - 1
     let exhausted := e.limit ≠ 0 ∧ left = 0
     after.hits = min (e.hits + 1) 65535 ∧ after.remaining = left ∧
     (e.period = 0 → after = { e with hits := after.hits, remaining := left, done := true }) ∧
     (0 < e.period → e.base = .step → e.value + e.period ≤ 2 ^ 48 - 1 →
       after = { e with
         hits := after.hits, remaining := left, value := e.value + e.period, done := decide exhausted }) ∧
     (0 < e.period → e.base = .step → 2 ^ 48 - 1 < e.value + e.period →
       after = { e with hits := after.hits, remaining := left, done := true }) ∧
     (0 < e.period → e.base = .edges →
       after = { e with
         hits := after.hits, remaining := left, value := (e.value % 2 ^ 32 + e.period) % 2 ^ 32, done := decide exhausted })) ∧
  (∀ (e : EventEntry) (step : Nat) (tracks : Vector TrackRun 24) (cells : Vector CellRun 16),
     e.type = .capture → e.matches_ step tracks cells = true →
     let left := if e.limit = 0 then e.remaining else e.remaining - 1
     let captured := if e.base = .step then step - 1 else (tracks[e.baseTrack]).edges
     e.stepped step tracks cells =
       { e with
         hits := min (e.hits + 1) 65535
         remaining := left
         value := if e.keepFirst = true ∧ e.hits ≠ 0 then e.value else captured
         done := decide (e.limit ≠ 0 ∧ left = 0) })

/-- R88: a flag that no matching entry operates keeps its value; otherwise the matching entry with the highest index among those that
operate it decides. R90: after a step a marker is high exactly if some entry with that marker matched in it, and its pin shows it, low in
COLD. -/
def Obligations.FlagsAndMarkersAfterStep : Prop :=
  (∀ (t : EventTable) (step : Nat) (tracks : Vector TrackRun 24) (cells : Vector CellRun 16) (g : Fin 8),
     let operates := fun i : Fin 32 =>
       (t.entries[i]).matches_ step tracks cells = true ∧ (t.entries[i]).gateOp ≠ .none ∧ (t.entries[i]).gateFlag = g
     let after := (t.stepped step tracks cells).gates[g]
     ((∀ i, ¬ operates i) → after = t.gates[g]) ∧
     ∀ i, operates i → (∀ j, i < j → ¬ operates j) →
       ((t.entries[i]).gateOp = .set → after = true) ∧ ((t.entries[i]).gateOp = .clear → after = false) ∧
       ((t.entries[i]).gateOp = .toggle → after = !t.gates[g])) ∧
  (∀ (t : EventTable) (step : Nat) (tracks : Vector TrackRun 24) (cells : Vector CellRun 16) (m : Fin 8),
     ((t.stepped step tracks cells).markers[m] = true ↔
       ∃ i : Fin 32, (t.entries[i]).matches_ step tracks cells = true ∧ (t.entries[i]).marker = some m) ∧
     ∀ i : Fin 32, (t.stepped step tracks cells).entries[i] = (t.entries[i]).stepped step tracks cells) ∧
  ∀ (s : State) (m : Fin 8), s.markerPin m = true ↔ s.seq.runState ≠ .cold ∧ s.events.markers[m] = true

/-! ### Requests -/

/-- R98, R99, R100: when a source qualifies, the three outcomes of a raise of a kind other than NONE, and which of two kinds is the heavier:
BREAK over PAUSE over MARK. A raise of kind NONE does nothing (R96). -/
def Obligations.RaiseOutcomes : Prop :=
  (∀ p k : Kind,
     (p = .brk ∨ k = .brk → p.heavier k = .brk) ∧
     (p ≠ .brk → k ≠ .brk → p = .pause ∨ k = .pause → p.heavier k = .pause) ∧
     (p = .mark → k = .mark → p.heavier k = .mark)) ∧
  ∀ (u : RequestUnit) (source : Fin 36) (k : Kind) (cause : Nat),
    let level := (u.settings[source]).level
    let after := u.raise source (some k) cause
    u.raise source none cause = u ∧
    (u.qualifies source = true ↔ level = 3 ∨ (u.settings[source]).enable = true ∧ u.mask ≤ level) ∧
    (u.qualifies source = false → after = { u with droppedCount := min (u.droppedCount + 1) 65535 }) ∧
    (u.qualifies source = true → u.waiting[source] = none →
      after = { u with
        waiting := u.waiting.set source (some { kind := k, level := level.val, causeStep := cause, merged := 0 }) }) ∧
    ∀ p, u.qualifies source = true → u.waiting[source] = some p →
      after = { u with
        mergedCount := min (u.mergedCount + 1) 65535
        waiting := u.waiting.set source (some
          { kind := p.kind.heavier k, level := level.val, causeStep := p.causeStep, merged := min (p.merged + 1) 15 }) }

/-- R102: a write of M keeps every pending record whose source still qualifies, removes every other one, and counts each removal; a write
of a source's enable or level re-tests the record of that source, and no other. -/
def Obligations.WritesRetestPending : Prop :=
  (∀ (u : RequestUnit) (mask : Fin 4),
     let after := u.writeMask mask
     let still := fun i : Fin 36 => ({ u with mask } : RequestUnit).qualifies i
     after.mask = mask ∧ after.settings = u.settings ∧ after.droppedCount = u.droppedCount ∧
       after.mergedCount = u.mergedCount ∧ after.placedCount = u.placedCount ∧
       (∀ i : Fin 36, after.waiting[i] = if still i = true then u.waiting[i] else none) ∧
       after.cancelCount =
         if ∀ i : Fin 36, (u.waiting[i]).isSome = true → still i = true then u.cancelCount
         else
           min (u.cancelCount +
             ((List.finRange 36).filter fun i => (u.waiting[i]).isSome && !still i).length) 65535) ∧
  (∀ (u : RequestUnit) (source : Fin 36) (enable : Bool) (level : Fin 4),
     let byEnable := { u.settings[source] with enable }
     let byLevel := { u.settings[source] with level }
     let qualifies := fun s : SourceSetting => s.level = 3 ∨ s.enable = true ∧ u.mask ≤ s.level
     (∀ j : Fin 36, j ≠ source →
       (u.writeEnable source enable).waiting[j] = u.waiting[j] ∧ (u.writeLevel source level).waiting[j] = u.waiting[j] ∧
       (u.writeEnable source enable).settings[j] = u.settings[j] ∧ (u.writeLevel source level).settings[j] = u.settings[j]) ∧
     (u.writeEnable source enable).settings[source] = byEnable ∧ (u.writeLevel source level).settings[source] = byLevel ∧
     ∀ p, u.waiting[source] = some p →
       (qualifies byEnable → (u.writeEnable source enable).waiting[source] = some p ∧
         (u.writeEnable source enable).cancelCount = u.cancelCount) ∧
       (¬ qualifies byEnable → (u.writeEnable source enable).waiting[source] = none ∧
         (u.writeEnable source enable).cancelCount = min (u.cancelCount + 1) 65535) ∧
       (qualifies byLevel → (u.writeLevel source level).waiting[source] = some { p with level := level.val } ∧
         (u.writeLevel source level).cancelCount = u.cancelCount) ∧
       (¬ qualifies byLevel → (u.writeLevel source level).waiting[source] = none ∧
         (u.writeLevel source level).cancelCount = min (u.cancelCount + 1) 65535))

/-! ### Frames and ring-out -/

/-- R111: a frame handed to an empty queue while ring-out is idle starts at once, else waits behind at most three others, else is
discarded and counted; when ring-out has sent a frame in full it starts the oldest one waiting. That the frame being sent is not one of
the four is log entry 9. -/
def Obligations.RingOutQueue : Prop :=
  (∀ (h : FrameHandler) (frame : List Byte),
    (h.sending = none → h.queue = [] → h.hand frame = { h with sending := some frame }) ∧
    (h.sending ≠ none ∨ h.queue ≠ [] → h.queue.length < 4 → h.hand frame = { h with queue := h.queue ++ [frame] }) ∧
    (4 ≤ h.queue.length → h.hand frame = { h with outputDrops := min (h.outputDrops + 1) 65535 })) ∧
  ∀ s : State,
    (s.handler.queue = [] → exec .frameTransmitDone s = .next (s.setHandler { s.handler with sending := none })) ∧
    ∀ (frame : List Byte) (rest : List (List Byte)), s.handler.queue = frame :: rest →
      exec .frameTransmitDone s = .next (s.setHandler { s.handler with sending := some frame, queue := rest })

/-- R113 to R118: the 61 bytes written for any contents a beat frame can have make a good frame that no part takes for unknown, and read
back as those contents; the bytes written for a service or an ENUM frame make a good frame of its type and length, and read back as its
contents. -/
def Obligations.FramesReadBack : Prop :=
  (∀ f : BeatFields, f.sequence < 256 → f.originNumber < 256 → f.stage < 256 → f.activationStep < 2 ^ 48 →
     f.grant < 2 ^ 48 → f.haltStep < 2 ^ 48 →
     (∀ k : Fin 4, ∀ r ∈ f.slots[k], r.position < 63 ∧ (r.source < 36 ∨ 40 ≤ r.source ∧ r.source < 46) ∧ r.level < 4 ∧
       r.causeStep < 2 ^ 48 ∧ r.merged < 16) →
     (writtenBeat f).length = 61 ∧ frameGood (writtenBeat f) = true ∧ frameType (writtenBeat f) = some .beat ∧
       beatImpossible (writtenBeat f) = false ∧ readBeat (writtenBeat f) = f) ∧
  ((∀ (code : BitVec 8) (f : ServiceFrame), (writtenService code f).length = 20 ∧ frameGood (writtenService code f) = true ∧
     frameType (writtenService code f) = some .service ∧ byteAt (writtenService code f) 3 = code ∧
     readService (writtenService code f) = f) ∧
   ∀ f : EnumFrame, (writtenEnum f).length = 5 ∧ frameGood (writtenEnum f) = true ∧
     frameType (writtenEnum f) = some .enum ∧ readEnum (writtenEnum f) = f)

/-! ### Reception -/

/-- R110, R176: a frame is in reception from a start mark that finds ring-in ON, and the gap is then measured from the mark (log entry
26). An end mark ends a frame in reception or one whose row brings its start mark too (log entry 6); one that ends a frame not received,
or that follows a frame completed early, is without effect, and so is the gap limit, or a 62nd byte, once no frame is in reception, so
that of an end mark and the limit that fall together the second takes no frame. A frame completed early leaves what follows it in no
frame. With a frame in reception a start mark cuts it as a frame of the bytes delivered so far (R177). A good frame completed by the gap
limit, by its 62nd byte or by the start mark that cuts it is taken as its end mark would have it (R119 to R121), but that a start mark
leaves the next frame in reception. -/
def Obligations.ReceptionBeginsAtStartMark : Prop :=
  (∀ s : State,
    let begun := s.setHandler
      { s.handler with reception := if s.handler.ringIn = true then .receiving else .missed, gapTimer := 0, arrived := [] }
    (s.handler.reception ≠ .receiving → exec .startMark s = .next begun) ∧
    (s.handler.inReception = true ↔ s.handler.ringIn = true ∧ s.handler.reception = .receiving) ∧
    (s.handler.receives = true ↔
      s.handler.ringIn = true ∧ (s.handler.reception = .between ∨ s.handler.reception = .receiving)) ∧
    (s.handler.inReception = false → ∀ bytes, exec (.startMarkCut bytes) s = .next begun) ∧
    exec .startMark s = exec (.startMarkCut s.handler.arrived) s) ∧
  (∀ (s : State) (bytes : List Byte), s.handler.receives = false →
    exec (.beatFrameAtFollower bytes) s = .next s.received ∧ exec (.beatFrameAtRoot bytes) s = .next s.received ∧
      ∀ f, exec (.enumFrameAtFollower f) s = .next s.received ∧ exec (.enumFrameAtRoot f) s = .next s.received) ∧
  (∀ (s : State) (bytes : List Byte), s.handler.inReception = false →
    exec (.frameGapTimeout bytes) s = .next s ∧ exec (.frameOverlength bytes) s = .next s) ∧
  (∀ (s t : State) (bytes : List Byte), s.handler.inReception = true →
    exec (.frameGapTimeout bytes) s = .next t ∨ exec (.frameOverlength bytes) s = .next t → t.handler.reception = .ended) ∧
  ∀ (s : State) (bytes : List Byte), s.handler.inReception = true → bytes.length ≤ 62 → frameGood bytes = true →
    let takenAs := fun c : Instr => ∃ t, exec c s = .next t ∧
      exec (.frameGapTimeout bytes) s = .next (t.setHandler { t.handler with reception := .ended }) ∧
      exec (.frameOverlength bytes) s = .next (t.setHandler { t.handler with reception := .ended }) ∧
      exec (.startMarkCut bytes) s = .next (t.setHandler { t.handler with reception := .receiving, gapTimer := 0, arrived := [] })
    (frameType bytes = some .beat → beatImpossible bytes = false →
      (s.seq.role = .follower → takenAs (.beatFrameAtFollower bytes)) ∧ (s.seq.role = .root → takenAs (.beatFrameAtRoot bytes))) ∧
    (frameType bytes = some .service → ∀ c, serviceRow c = some (byteAt bytes 3, readService bytes) → takenAs c) ∧
    (frameType bytes = some .enum →
      (s.seq.role = .follower → takenAs (.enumFrameAtFollower (readEnum bytes))) ∧
        (s.seq.role = .root → takenAs (.enumFrameAtRoot (readEnum bytes))))

/-- R114, R176, R177: a frame that fails its check, however it was completed, is discarded; the check-error count rises, stopping at
65535, and RING_CHECK is raised, kind BREAK, cause step C. A start mark that cut it begins the next frame. A known type of another length,
or fewer than three bytes, fails the check. R115: a good frame of no known type, or a good beat frame with content that no beat frame can
hold, is discarded and counted; nothing else changes. -/
def Obligations.DiscardedFrames : Prop :=
  ((∀ (s : State) (bytes : List Byte), bytes.length ≤ 62 → frameGood bytes = false →
     let discarded := fun (r : Reception) (gap : Nat) (arrived : List Byte) =>
       (s.setHandler { s.handler with
         reception := r, gapTimer := gap, arrived, checkErrors := min (s.handler.checkErrors + 1) 65535 }).setRequests
         (s.requests.raise 33 (some .brk) s.seq.step)
     (s.handler.receives = true →
       exec (.beatFrameAtFollower bytes) s = .next (discarded .between s.handler.gapTimer s.handler.arrived) ∧
         exec (.beatFrameAtRoot bytes) s = .next (discarded .between s.handler.gapTimer s.handler.arrived)) ∧
     (s.handler.inReception = true →
       exec (.frameGapTimeout bytes) s = .next (discarded .ended s.handler.gapTimer s.handler.arrived) ∧
         exec (.frameOverlength bytes) s = .next (discarded .ended s.handler.gapTimer s.handler.arrived) ∧
         exec (.startMarkCut bytes) s = .next (discarded .receiving 0 []))) ∧
   ∀ bytes : List Byte,
     (bytes.length < 3 → frameGood bytes = false) ∧ (frameType bytes = some .beat → bytes.length ≠ 61 → frameGood bytes = false) ∧
     (frameType bytes = some .service → bytes.length ≠ 20 → frameGood bytes = false) ∧
     (frameType bytes = some .enum → bytes.length ≠ 5 → frameGood bytes = false)) ∧
  (∀ (s : State) (bytes : List Byte), bytes.length ≤ 62 → frameGood bytes = true →
     frameType bytes = none ∨ frameType bytes = some .beat ∧ beatImpossible bytes = true →
     let unknown := fun (r : Reception) (gap : Nat) (arrived : List Byte) =>
       s.setHandler
         { s.handler with reception := r, gapTimer := gap, arrived, unknowns := min (s.handler.unknowns + 1) 65535 }
     (s.handler.receives = true →
       exec (.beatFrameAtFollower bytes) s = .next (unknown .between s.handler.gapTimer s.handler.arrived) ∧
         exec (.beatFrameAtRoot bytes) s = .next (unknown .between s.handler.gapTimer s.handler.arrived)) ∧
     (s.handler.inReception = true →
       exec (.frameGapTimeout bytes) s = .next (unknown .ended s.handler.gapTimer s.handler.arrived) ∧
         exec (.frameOverlength bytes) s = .next (unknown .ended s.handler.gapTimer s.handler.arrived) ∧
         exec (.startMarkCut bytes) s = .next (unknown .receiving 0 [])))

/-! ### Beat and ENUM frames at a follower -/

/-- R10 to R14: what the sequencer of a synchronised follower in READY, RUN, HALTING, HALTED or BROKEN makes of the grant, halt and mode
fields; in any other state, or unsynchronised, they are not read. That the halt kind keeps its value on entering RUN is log entry 14. -/
def Obligations.FollowerReadsModes : Prop :=
  ∀ (q : Sequencer) (f : BeatFields),
    (q.runState.readsGrant = false ∨ q.originNumber = none → q.readFields f = q) ∧
    (q.runState.readsGrant = true → q.originNumber ≠ none →
      let g := max q.grant f.grant
      (f.mode = .ready →
        (q.runState = .run ∨ q.runState = .halting → q.readFields f = { q with grant := g, runState := .stranded }) ∧
        (q.runState = .ready ∨ q.runState = .halted ∨ q.runState = .broken → q.readFields f = { q with grant := g })) ∧
      (f.mode = .run →
        (q.runState = .ready → q.step < g → q.readFields f = { q with grant := g, runState := .run }) ∧
        (q.runState = .ready → g ≤ q.step → q.readFields f = { q with grant := g }) ∧
        (q.runState = .run → q.readFields f = { q with grant := g }) ∧
        (q.runState = .halting ∨ q.runState = .halted ∨ q.runState = .broken →
          q.readFields f = { q with grant := g, haltStep := none, runState := .run })) ∧
      (f.mode = .halt →
        let r : Sequencer := { q with grant := g, haltStep := some f.haltStep, haltKind := f.haltKind }
        (q.step < f.haltStep → q.readFields f = { r with runState := .halting }) ∧
        (q.step = f.haltStep → f.haltKind = .pause → q.readFields f = { r with runState := .halted }) ∧
        (q.step = f.haltStep → f.haltKind = .brk → q.readFields f = { r with runState := .broken }) ∧
        (f.haltStep < q.step → q.readFields f = { r with runState := .stranded })))

/-- R119, R10, R17: a good beat frame at a follower restarts the watchdog; performs origin where its origin fields ask for it (R10); has its
grant, halt and mode fields read; has its ACTIVATE fields read by the plan store (R155, R160); takes at most one pending request (R103);
and goes on with REACHED and UNSYNC rewritten (R122) and a new check. A frame that performs no origin and announces no new activation, at a
follower with nothing pending, changes nothing else. -/
def Obligations.BeatFrameAtFollower : Prop :=
  (∀ (s : State) (bytes : List Byte), s.handler.receives = true → s.seq.role = .follower → BeatBytes bytes →
    let f := readBeat bytes
    let origin := s.seq.runState.numbered = true ∧ f.originFlag = true ∧ s.seq.originNumber ≠ some f.originNumber
    let restarted := s.received.setSeq { s.seq with watchdog := .running s.clock.time s.plan.live.header.beatTimeout }
    let synced := if origin then restarted.performOrigin f.originNumber else restarted
    let read := (synced.setSeq (synced.seq.readFields f)).readActivation f (decide origin)
    let reached := read.seq.originNumber ≠ none ∧ read.seq.runState ∈ [.ready, .run, .halting, .halted, .broken] ∧
      f.mode = .halt ∧ read.seq.step = f.haltStep
    let unsync := read.seq.runState = .idle ∨ read.seq.runState = .stranded ∨
      read.seq.runState.numbered = true ∧ read.seq.originNumber = none
    (s.seq.mustOrigin f = true ↔ origin) ∧
    exec (.beatFrameAtFollower bytes) s =
      .next ((read.placeRequest bytes).1.hand
        (rechecked (rewriteSummary (read.placeRequest bytes).2 (f.reached && decide reached) (f.unsync || decide unsync))))) ∧
  ∀ (s : State) (bytes : List Byte), s.handler.receives = true → s.seq.role = .follower → BeatBytes bytes →
    s.seq.mustOrigin (readBeat bytes) = false → s.plan.learns (readBeat bytes) = false →
    (∀ i : Fin 36, s.requests.waiting[i] = none) →
    let f := readBeat bytes
    let q : Sequencer :=
      ({ s.seq with watchdog := .running s.clock.time s.plan.live.header.beatTimeout } : Sequencer).readFields f
    exec (.beatFrameAtFollower bytes) s =
      .next ((s.received.setSeq q).hand (rechecked (rewriteSummary bytes (f.reached && q.reached f) (f.unsync || q.unsync))))

/-- R19, R160: a part that performs origin: C and G are 0, F absent, kind PAUSE, the number taken, READY, the flags cleared and a follower's
watchdog restarted; a pending activation applied; every track, lane and cell restarted from the live plan, the gate flags counting as 0
(R43, R53, R72); the entries' hits 0, done clear and remaining the limit, the gate flags and markers 0 (R93); and the pending set emptied,
PLAN_CLAMP then raised with cause step 0 if the activation made clamps. R10: so does a good beat frame whose ORIGIN flag is set with
another origin number, at a follower in a numbered state; its grant, halt and mode fields are then read in READY. -/
def Obligations.FollowerPerformsOrigin : Prop :=
  (∀ (s : State) (number : Nat),
    let t := s.performOrigin number
    let clamps := if s.plan.pendingActivation = none then 0 else s.plan.staged.recordClamps
    t.seq = { s.seq with
      step := 0, grant := 0, haltStep := none, haltKind := .pause, originNumber := some number, runState := .ready
      ringSilent := false, referenceLost := false
      watchdog := if s.seq.role = .follower then .running s.clock.time s.plan.live.header.beatTimeout else s.seq.watchdog } ∧
    (s.plan.pendingActivation = none → t.plan = s.plan) ∧
    (∀ a, s.plan.pendingActivation = some a → t.plan = { s.plan with
      live := s.plan.staged.clamped, liveStage := a.stage, pendingActivation := none, clampsAtLast := clamps }) ∧
    (∀ i : Fin 24, t.tracks[i] = (t.plan.live.tracks[i]).restarted) ∧
    t.lanes = fillLanes t.plan.live.lanes t.tracks 0 ∧
    t.cells = restartCells t.plan.live.cells s.cells (fun _ => true) t.tracks (Vector.replicate 8 false) ∧
    (∀ i : Fin 32, t.events.entries[i] =
      { s.events.entries[i] with done := false, hits := 0, remaining := (s.events.entries[i]).limit }) ∧
    (∀ g : Fin 8, t.events.gates[g] = false ∧ t.events.markers[g] = false) ∧
    (let emptied := { s.requests with waiting := Vector.replicate 36 none }
     t.requests = if clamps = 0 then emptied else emptied.raise 34 s.requests.clampKind 0) ∧
    t.handler = s.handler ∧ t.root = s.root ∧ t.cursor = s.cursor ∧ t.clock = s.clock ∧ t.pending = s.pending) ∧
  ∀ (s : State) (bytes : List Byte), s.handler.receives = true → s.seq.role = .follower → BeatBytes bytes →
    s.seq.mustOrigin (readBeat bytes) = true →
    let f := readBeat bytes
    let o := s.performOrigin f.originNumber
    ∃ t, exec (.beatFrameAtFollower bytes) s = .next t ∧
      t.seq = { o.seq with
        grant := f.grant
        haltStep := if f.mode = .halt then some f.haltStep else none
        haltKind := if f.mode = .halt then f.haltKind else .pause
        runState := match f.mode with
          | .ready => .ready
          | .run => if 0 < f.grant then .run else .ready
          | .halt => if 0 < f.haltStep then .halting else if f.haltKind = .brk then .broken else .halted } ∧
      t.events = o.events ∧ t.root = s.root ∧ t.cursor = s.cursor ∧ t.clock = s.clock ∧
      (o.plan.learns f = false →
        t.plan = o.plan ∧ t.tracks = o.tracks ∧ t.lanes = o.lanes ∧ t.cells = o.cells ∧
          ((∀ i : Fin 36, o.requests.waiting[i] = none) → t.requests = o.requests))

/-- R116, R119, R122, R123: the frame that a follower sends on for a good beat frame is a good beat frame with the fields as they came,
REACHED and UNSYNC folded with the part's own values, every occupied slot as it came, and at most the first empty slot filled, with the
part's own position. -/
def Obligations.ForwardedBeatFrame : Prop :=
  ∀ (s t : State) (bytes : List Byte), s.handler.receives = true → s.seq.role = .follower → BeatBytes bytes →
    s.handler.sending = none → s.handler.queue = [] → exec (.beatFrameAtFollower bytes) s = .next t →
    ∃ out, t.handler.sending = some out ∧ BeatBytes out ∧
      (let f := readBeat bytes
       let g := readBeat out
       g = { f with
         reached := f.reached && (t.seq.originNumber.isSome && t.seq.runState.readsGrant && f.mode == .halt &&
           t.seq.step == f.haltStep)
         unsync := f.unsync || (t.seq.runState == .idle || t.seq.runState == .stranded ||
           (t.seq.runState.numbered && t.seq.originNumber.isNone))
         slots := g.slots } ∧
       (∀ k : Fin 4, (f.slots[k]).isSome = true → g.slots[k] = f.slots[k]) ∧
       ∀ k : Fin 4, g.slots[k] ≠ f.slots[k] →
         f.slots[k] = none ∧ (∀ j : Fin 4, j < k → (f.slots[j]).isSome = true) ∧
         ∃ r, g.slots[k] = some r ∧ s.handler.position.map (fun p => p.val) = some r.position)

/-- R104: the best pending record is one of the highest level, and among those the one of the lowest source code. R103: a follower with a
position places it into the first empty slot of a frame that carries no record of its position; the record leaves the pending set and is
counted. With no position, no empty slot or nothing pending, nothing is placed. -/
def Obligations.BestRequestIsPlaced : Prop :=
  (∀ (u : RequestUnit),
    (u.best = none ↔ ∀ i : Fin 36, u.waiting[i] = none) ∧
    ∀ (source : Fin 36) (p : PendingRequest), u.best = some (source, p) ↔
      u.waiting[source] = some p ∧
        ∀ (j : Fin 36) (q : PendingRequest), u.waiting[j] = some q → q.level < p.level ∨ q.level = p.level ∧ source ≤ j) ∧
  (∀ (s : State) (bytes : List Byte),
    s.handler.position = none ∨ s.seq.runState.numbered = false ∨ (∀ k : Fin 4, slotOccupied (slotBytes bytes k.val) = true) ∨
      (∀ i : Fin 36, s.requests.waiting[i] = none) → s.placeRequest bytes = (s, bytes)) ∧
  ∀ (s : State) (bytes : List Byte) (position : Fin 63) (slot : Nat) (source : Fin 36) (p : PendingRequest),
    s.handler.position = some position → s.seq.runState.numbered = true →
    firstEmptySlot bytes = some slot → s.requests.best = some (source, p) →
    (carriesPosition bytes position.val = true → s.placeRequest bytes = (s, bytes)) ∧
    (carriesPosition bytes position.val = false →
      s.placeRequest bytes =
        (s.setRequests { s.requests with
            waiting := s.requests.waiting.set source none, placedCount := min (s.requests.placedCount + 1) 65535 },
          writeSlot bytes slot
            { position := position.val, source := source.val, kind := p.kind, level := p.level, causeStep := p.causeStep
              merged := p.merged }))

/-- R21, R126: an ENUM frame at a follower: with a position left the part takes it and enters READY unsynchronised, and the next position
goes on; with none left the part is IDLE without a position, and the excess is counted. A next position of 0 counts as 63. R127: at the
root it ends an outstanding enumeration with its size and excess, and is unknown otherwise; the timeout of an outstanding enumeration
loses it. That the excess follower's halt kind stays is log entry 14; the timer's value after the timeout is the model's (log entry 12)
and is not stated. -/
def Obligations.EnumFrames : Prop :=
  (∀ (s : State) (f : EnumFrame), s.handler.receives = true → s.seq.role = .follower →
     (∀ p : Fin 63, p.val ≠ 0 → p.val = f.nextPosition.toNat →
       exec (.enumFrameAtFollower f) s =
         .next (((s.setSeq { s.seq with
             runState := .ready, originNumber := none, haltStep := none, haltKind := .pause }).setHandler
           { s.handler with reception := .between, position := some p }).hand
             (writtenEnum { reserved := 0, nextPosition := BitVec.ofNat 6 (p.val + 1), excessCount := f.excessCount }))) ∧
     (f.nextPosition = 63 ∨ f.nextPosition = 0 →
       exec (.enumFrameAtFollower f) s =
         .next (((s.setSeq { s.seq with runState := .idle, originNumber := none, haltStep := none }).setHandler
           { s.handler with reception := .between, position := none }).hand
             (writtenEnum
               { reserved := 0, nextPosition := 63, excessCount := BitVec.ofNat 8 (min (f.excessCount.toNat + 1) 255) })))) ∧
  ((∀ (s : State) (f : EnumFrame), s.handler.receives = true → s.seq.role = .root →
     (s.handler.enumerationOutstanding = true →
       exec (.enumFrameAtRoot f) s =
         .next (s.setHandler { s.handler with
           reception := .between, enumerationOutstanding := false
           ringSize := some (if f.nextPosition = 0 then 63 else f.nextPosition.toNat)
           excessCount := f.excessCount.toNat })) ∧
     (s.handler.enumerationOutstanding = false →
       exec (.enumFrameAtRoot f) s =
         .next (s.setHandler { s.handler with
           reception := .between, unknowns := min (s.handler.unknowns + 1) 65535 }))) ∧
   ∀ s : State, s.handler.enumerationOutstanding = true → ∃ time,
     exec .enumerationTimeout s =
       .next (s.setHandler { s.handler with
         enumerationOutstanding := false, ringSize := none, enumerationLost := true, enumerationTimer := time }))

/-! ### The root timebase -/

/-- R138, R139, R140: a record at the root. A MARK, and a PAUSE or BREAK in READY or STRANDED, becomes a notice, the latter with the late
flag; a PAUSE or BREAK in RUN decides the halt with F at G_root; in HALTING, HALTED or BROKEN it is a secondary, appended or counted as
overflow, and a BREAK escalates a PAUSE. -/
def Obligations.RecordsAtRoot : Prop :=
  ∀ (s : State) (r : RequestRecord),
    let entry := fun late : Bool => ({ request := r, arrivalStep := s.seq.step, late } : LoggedRequest)
    let noticed := fun late : Bool =>
      s.setRoot (if s.root.notices.length < 16 then { s.root with notices := s.root.notices ++ [entry late] }
        else { s.root with noticeDropCount := min (s.root.noticeDropCount + 1) 65535 })
    (r.kind = .mark → s.processRecord r = noticed false) ∧
    (r.kind ≠ .mark → s.seq.runState = .ready ∨ s.seq.runState = .stranded → s.processRecord r = noticed true) ∧
    (r.kind ≠ .mark → s.seq.runState = .run →
      let kind : HaltKind := if r.kind = .brk then .brk else .pause
      s.processRecord r =
        (s.setSeq { s.seq with haltStep := some s.root.rootGrant, haltKind := kind, runState := .halting }).setRoot
          { s.root with
            target := none
            outstanding := s.root.outstanding.map fun e => { e with haltCurrent := false }
            haltRecord :=
              { isOpen := true, kind, haltStep := some s.root.rootGrant, decisionStep := some s.seq.step
                entries := [entry false], overflowCount := 0 } }) ∧
    (r.kind ≠ .mark → s.seq.runState = .halting ∨ s.seq.runState = .halted ∨ s.seq.runState = .broken →
      let late := decide (s.seq.runState ≠ .halting)
      let record := s.root.haltRecord
      let joined :=
        if record.entries.length < 8 then { record with entries := record.entries ++ [entry late] }
        else { record with overflowCount := min (record.overflowCount + 1) 65535 }
      (r.kind = .pause ∨ s.seq.haltKind = .brk → s.processRecord r = s.setRoot { s.root with haltRecord := joined }) ∧
      (r.kind = .brk → s.seq.haltKind = .pause →
        s.processRecord r =
          (s.setRoot { s.root with haltRecord := { joined with kind := .brk } }).setSeq
            { s.seq with
              haltKind := .brk, runState := if s.seq.runState = .halted then .broken else s.seq.runState }))

/-- R131, R132, R133, R106: one emission that does not find the root in RUN once step 1 of R132 is done, in which the best pending record
of the root's own, if there is one, is given up and processed (so that it can itself decide the halt of a root in RUN): the frame carries
what R131's table gives for the run state, it joins the tail of the outstanding list, the next sequence rises, and the frame is handed to
ring-out. -/
def Obligations.EmissionOutsideRun : Prop :=
  ∀ s u : State, s.OwnRequestTaken u → u.seq.runState ≠ .run →
    (u.seq.runState = .halting ∨ u.seq.runState = .halted ∨ u.seq.runState = .broken → ∀ f, u.seq.haltStep = some f →
      s.emit = u.emitted (u.rootFrame .halt u.seq.haltKind f f (decide (u.seq.step = f)))) ∧
    (u.seq.runState = .ready ∨ u.seq.runState = .stranded →
      s.emit = u.emitted (u.rootFrame .ready .pause u.root.rootGrant 0 false))

/-- R132, R131, R133 at a root that is in RUN once step 1 is done: the grant is C_root + Ld, capped at the target and at 2^48−1, and never
falls; a grant that reaches the target, or else 2^48−1, decides the pause with F at the grant (R139), and the frame emitted is already a
HALT frame; else the root stays in RUN, and the frame carries mode RUN, kind PAUSE and the grant, with halt step 0 and REACHED 0. -/
def Obligations.EmissionRaisesGrant : Prop :=
  ∀ s u : State, s.OwnRequestTaken u → u.seq.runState = .run →
    let lead := u.seq.step + u.plan.live.header.lead
    ∀ cap, (u.root.target = none → cap = 2 ^ 48 - 1) → (∀ T, u.root.target = some T → cap = min T (2 ^ 48 - 1)) →
      let grant := max u.root.rootGrant (min lead cap)
      let v := (u.setRoot { u.root with rootGrant := grant }).setSeq { u.seq with grant }
      let halted := fun source : Nat =>
        v.processRecord { position := 0, source, kind := .pause, level := 3, causeStep := grant, merged := 0 }
      (u.root.target ≠ some grant → grant ≠ 2 ^ 48 - 1 →
        s.emit = v.emitted (v.rootFrame .run .pause grant 0 false)) ∧
      (u.root.target = some grant →
        s.emit = (halted 41).emitted ((halted 41).rootFrame .halt .pause grant grant (decide (u.seq.step = grant)))) ∧
      (u.root.target ≠ some grant → grant = 2 ^ 48 - 1 →
        s.emit = (halted 45).emitted ((halted 45).rootFrame .halt .pause grant grant (decide (u.seq.step = grant))))

/-- R130, R16, R4, R5: a strobe at a root. Its step and its emission come in either order, which the operand names, and the pace is loaded
as they leave it (log entry 10). The step: in RUN with C below G, and in HALTING with C below F; in HALTING the root waits at C = F. The
cadence, in the numbered states: below the beat spacing the emission count rises; at it the count is 0 and the emission is made, or
deferred and counted when the list holds 32; a deferred emission is made once the list has room, and its strobe leaves the count at 0 (log
entry 10). In READY, HALTED, BROKEN and STRANDED the strobe is its cadence alone. That PACE_STROBE makes a deferred emission as
DEFERRED_EMISSION does is log entry 7. -/
def Obligations.RootStrobeCadence : Prop :=
  (∀ (s : State) (watch : BitVec 16), s.seq.role = .root → s.seq.referencePresent = true → s.seq.runState ≠ .cold →
    let spacing := s.plan.live.header.spacing
    let struck := s.setSeq { s.seq with strobeCount := 0 }
    let loaded := fun t : State => t.setSeq { t.seq with paceInForce := t.plan.live.header.pace }
    exec (.paceStrobe watch .stepFirst) s = .next (loaded ((struck.actOnStrobe watch).cadence spacing)) ∧
    exec (.paceStrobe watch .emissionFirst) s = .next (loaded ((struck.cadence spacing).actOnStrobe watch))) ∧
  (∀ (s : State) (watch : BitVec 16), s.seq.role = .root →
    (s.seq.runState = .run → s.seq.step < s.seq.grant → s.actOnStrobe watch = s.takeStep watch) ∧
    (∀ f, s.seq.runState = .halting → s.seq.haltStep = some f → s.seq.step < f → s.seq.step < s.seq.grant →
      s.actOnStrobe watch = s.takeStep watch) ∧
    (s.seq.runState = .halting → s.seq.haltStep = some s.seq.step ∨ s.seq.step = s.seq.grant → s.actOnStrobe watch = s) ∧
    (s.seq.runState ≠ .run → s.seq.runState ≠ .halting → s.actOnStrobe watch = s)) ∧
  (∀ (s : State) (spacing : Nat), s.seq.role = .root →
    let count := s.root.emissionCount + 1
    (s.seq.runState = .idle → s.cadence spacing = s) ∧
    (s.seq.runState ≠ .cold → s.seq.runState ≠ .idle →
      (s.root.emissionDue = false → count < spacing → s.cadence spacing = s.setRoot { s.root with emissionCount := count }) ∧
      (s.root.emissionDue = false → spacing ≤ count → s.root.outstanding.length < 32 →
        s.cadence spacing = (s.setRoot { s.root with emissionCount := 0 }).emit) ∧
      (s.root.emissionDue = false → spacing ≤ count → 32 ≤ s.root.outstanding.length →
        s.cadence spacing = s.setRoot { s.root with
          emissionCount := 0, emissionDue := true, deferredCount := min (s.root.deferredCount + 1) 65535 }) ∧
      (s.root.emissionDue = true → 32 ≤ s.root.outstanding.length → s.cadence spacing = s) ∧
      (s.root.emissionDue = true → s.root.outstanding.length < 32 →
        s.cadence spacing = (s.setRoot { s.root with emissionDue := false }).emit ∧
        (s.seq.referencePresent = true →
          exec .deferredEmission s = .next (s.setRoot { s.root with emissionDue := false }).emit)))) ∧
  ∀ (s : State) (watch : BitVec 16) (order : StrobeOrder), s.seq.role = .root → s.seq.referencePresent = true →
    s.seq.runState = .ready ∨ s.seq.runState = .halted ∨ s.seq.runState = .broken ∨ s.seq.runState = .stranded →
    let q : Sequencer := { s.seq with strobeCount := 0, paceInForce := s.plan.live.header.pace }
    let count := s.root.emissionCount + 1
    (s.root.emissionDue = false → count < s.plan.live.header.spacing →
      exec (.paceStrobe watch order) s = .next ((s.setSeq q).setRoot { s.root with emissionCount := count })) ∧
    (s.root.emissionDue = false → s.plan.live.header.spacing ≤ count → s.root.outstanding.length < 32 →
      exec (.paceStrobe watch order) s = .next ((s.setSeq q).setRoot { s.root with emissionCount := 0 }).emit) ∧
    (s.root.emissionDue = false → s.plan.live.header.spacing ≤ count → 32 ≤ s.root.outstanding.length →
      exec (.paceStrobe watch order) s =
        .next ((s.setSeq q).setRoot { s.root with
          emissionCount := 0, emissionDue := true, deferredCount := min (s.root.deferredCount + 1) 65535 })) ∧
    (s.root.emissionDue = true → 32 ≤ s.root.outstanding.length →
      exec (.paceStrobe watch order) s = .next (s.setSeq q)) ∧
    (s.root.emissionDue = true → s.root.outstanding.length < 32 →
      exec (.paceStrobe watch order) s = .next ((s.setSeq q).setRoot { s.root with emissionDue := false }).emit)

/-- R134: a returned frame is matched by its sequence: at the oldest entry it is processed; at a later one the older entries are lost and
RING_LOSS is taken first, by the table of R138 in the root's state (in RUN it decides the halt, in HALTING, HALTED and BROKEN it is a
secondary, in READY and STRANDED a notice), and the frame is then processed with its entry as that leaves it; matching none it is
foreign. -/
def Obligations.ReturnedFrameMatched : Prop :=
  ∀ (s : State) (bytes : List Byte), s.handler.receives = true → s.seq.role = .root → BeatBytes bytes →
    let f := readBeat bytes
    ((∀ e ∈ s.root.outstanding, e.sequence ≠ f.sequence) →
      exec (.beatFrameAtRoot bytes) s =
        .next (s.received.setRoot { s.root with foreignCount := min (s.root.foreignCount + 1) 65535 })) ∧
    ∀ (older : List OutstandingBeat) (e : OutstandingBeat) (rest : List OutstandingBeat),
      s.root.outstanding = older ++ e :: rest → e.sequence = f.sequence → (∀ x ∈ older, x.sequence ≠ f.sequence) →
      (older = [] →
        exec (.beatFrameAtRoot bytes) s =
          .next ((s.received.setRoot { s.root with outstanding := rest }).processReturn f e)) ∧
      (older ≠ [] → s.seq.runState ≠ .idle →
        let t := (s.received.setRoot { s.root with
            outstanding := e :: rest, lostCount := min (s.root.lostCount + older.length) 65535 }).processRecord
              { position := 0, source := 42, kind := .brk, level := 3, causeStep := s.seq.step, merged := 0 }
        ∃ e' rest', t.root.outstanding = e' :: rest' ∧
          (s.seq.runState ≠ .run → e' = e ∧ rest' = rest) ∧
          (s.seq.runState = .run →
            e' = { e with haltCurrent := false } ∧ rest' = rest.map fun x => { x with haltCurrent := false }) ∧
          exec (.beatFrameAtRoot bytes) s =
            .next ((t.setRoot { t.root with outstanding := rest' }).processReturn f e'))

/-- R137: a returned frame's requests are processed in slot order over the measured round trip (R135), and the rest of the frame then as
that of a frame without requests; a halt decided in this same processing is not confirmed by it (log entry 15). R135, R137, R154: a
returned frame without requests ends an origin announcement it carried, completes an announced activation it carried from a step at or
above the activation's, gives a round trip if its numbering is current, and with UNSYNC decides a halt in RUN. R141, R142: with
halt-current set, at a root in HALTING, it confirms the halt with REACHED 1 and UNSYNC 0, strands the root and closes the record with
UNSYNC 1, and does neither otherwise; without halt-current it does neither. -/
def Obligations.ReturnedFrameProcessed : Prop :=
  (∀ (s : State) (f : BeatFields) (e : OutstandingBeat),
    let trip := s.seq.step - e.rootStep
    let measured := if e.numberingCurrent = true then
        s.setRoot { s.root with
          largestRoundTrip := min (max s.root.largestRoundTrip trip) 65535
          leadShort := s.root.leadShort || decide (s.plan.live.header.lead < trip) }
      else s
    let records := [f.slots[0], f.slots[1], f.slots[2], f.slots[3]].filterMap fun slot => slot
    s.processReturn f e =
      (records.foldl State.processRecord measured).processReturn { f with slots := Vector.replicate 4 none }
        { e with numberingCurrent := false, haltCurrent := e.haltCurrent && decide (s.seq.runState ≠ .run) }) ∧
  (∀ (s : State) (f : BeatFields) (e : OutstandingBeat), (∀ k : Fin 4, f.slots[k] = none) →
    let t := s.processReturn f e
    let trip := s.seq.step - e.rootStep
    let completes := f.activateFlag = true ∧ s.plan.announced = some { stage := f.stage, step := f.activationStep } ∧
      f.activationStep ≤ e.rootStep
    t.root.originOutstanding = (s.root.originOutstanding && !e.originCurrent) ∧
    t.root.ringUnsynchronised = f.unsync ∧
    (completes → t.plan = { s.plan with announced := none }) ∧ (¬ completes → t.plan = s.plan) ∧
    (e.numberingCurrent = true →
      t.root.largestRoundTrip = min (max s.root.largestRoundTrip trip) 65535 ∧
        t.root.leadShort = (s.root.leadShort || decide (s.plan.live.header.lead < trip))) ∧
    (e.numberingCurrent = false →
      t.root.largestRoundTrip = s.root.largestRoundTrip ∧ t.root.leadShort = s.root.leadShort) ∧
    (s.seq.runState = .run → f.unsync = false → t.seq = s.seq) ∧
    (s.seq.runState = .run → f.unsync = true →
      t.seq = { s.seq with runState := .halting, haltStep := some s.root.rootGrant, haltKind := .brk } ∧
        t.root.haltRecord.entries.map (fun x => x.request) =
          [{ position := 0, source := 44, kind := .brk, level := 3, causeStep := s.seq.step, merged := 0 }])) ∧
  ∀ (s : State) (f : BeatFields) (e : OutstandingBeat), s.seq.role = .root → s.seq.runState = .halting →
    (∀ k : Fin 4, f.slots[k] = none) →
    let t := s.processReturn f e
    t.root.outstanding = s.root.outstanding ∧
    t.seq = { s.seq with runState := t.seq.runState } ∧
    (e.haltCurrent = true → f.unsync = false → f.reached = true →
      t.seq.runState = (if s.seq.haltKind = .brk then .broken else .halted) ∧ t.root.haltRecord = s.root.haltRecord) ∧
    (e.haltCurrent = true → f.unsync = true →
      t.seq.runState = .stranded ∧ t.root.haltRecord = { s.root.haltRecord with isOpen := false }) ∧
    (e.haltCurrent = false ∨ f.unsync = false ∧ f.reached = false →
      t.seq.runState = .halting ∧ t.root.haltRecord = s.root.haltRecord)

/-- R17: the beat watchdog's expiry at a follower, when the time since its restart has reached the timeout: the silence count rises,
stopping at 65535, and RUN or HALTING becomes STRANDED, while any other state latches ring silent; before that, as after a frame that
restarted it, and expired or stopped, it does not expire. R136: the return timeout, when the age of the oldest entry has reached the live
value, discards every entry as lost and latches ring silent; in RUN it decides the halt, in HALTING it is a secondary and the root is
stranded, and elsewhere it does no more; before that, as after a return that left a younger oldest entry, or with an empty list, it does
not expire. R159: after an activation at the root, both timeouts that the new value has reached expire as those events do. -/
def Obligations.TimersExpire : Prop :=
  (∀ s : State,
    (∀ since limit, s.seq.role = .follower → s.seq.runState ≠ .cold → s.seq.watchdog = .running since limit →
      let q : Sequencer := { s.seq with watchdog := .expired, silenceCount := min (s.seq.silenceCount + 1) 65535 }
      (s.clock.time - since < limit → exec .beatWatchdogExpiry s = .next s) ∧
      (limit ≤ s.clock.time - since → s.seq.runState = .run ∨ s.seq.runState = .halting →
        exec .beatWatchdogExpiry s = .next (s.setSeq { q with runState := .stranded })) ∧
      (limit ≤ s.clock.time - since → s.seq.runState ≠ .run → s.seq.runState ≠ .halting →
        exec .beatWatchdogExpiry s = .next (s.setSeq { q with ringSilent := true }))) ∧
    (s.seq.watchdog = .expired ∨ s.seq.watchdog = .stopped → exec .beatWatchdogExpiry s = .next s)) ∧
  (∀ s : State, s.seq.role = .root →
    (s.root.outstanding = [] → exec .returnTimeout s = .next s) ∧
    ∀ e rest, s.root.outstanding = e :: rest →
      let age := s.clock.time - e.emissionTime
      let cause : RequestRecord :=
        { position := 0, source := 43, kind := .brk, level := 3, causeStep := s.seq.step, merged := 0 }
      let root : RootTimebase :=
        { s.root with outstanding := [], lostCount := min (s.root.lostCount + s.root.outstanding.length) 65535 }
      let q : Sequencer := { s.seq with ringSilent := true }
      let entry : LoggedRequest := { request := cause, arrivalStep := s.seq.step, late := false }
      let record := s.root.haltRecord
      let joined :=
        if record.entries.length < 8 then { record with entries := record.entries ++ [entry] }
        else { record with overflowCount := min (record.overflowCount + 1) 65535 }
      (age < s.plan.live.header.returnTimeout → exec .returnTimeout s = .next s) ∧
      (s.plan.live.header.returnTimeout ≤ age →
        (s.seq.runState ≠ .run → s.seq.runState ≠ .halting →
          exec .returnTimeout s = .next ((s.setRoot root).setSeq q)) ∧
        (s.seq.runState = .run →
          exec .returnTimeout s =
            .next ((s.setRoot { root with
                target := none
                haltRecord :=
                  { isOpen := true, kind := .brk, haltStep := some s.root.rootGrant, decisionStep := some s.seq.step
                    entries := [entry], overflowCount := 0 } }).setSeq
              { q with haltStep := some s.root.rootGrant, haltKind := .brk, runState := .halting })) ∧
        (s.seq.runState = .halting →
          exec .returnTimeout s =
            .next ((s.setRoot { root with
                haltRecord := { joined with
                  isOpen := false, kind := if s.seq.haltKind = .pause then .brk else record.kind } }).setSeq
              { q with haltKind := .brk, runState := .stranded })))) ∧
  ∀ s : State, s.seq.role = .root →
    let overdue := ∃ e rest, s.root.outstanding = e :: rest ∧ s.plan.live.header.returnTimeout ≤ s.clock.time - e.emissionTime
    let enumOverdue := s.handler.enumerationOutstanding = true ∧ s.plan.live.header.returnTimeout ≤ s.handler.enumerationTimer
    (¬ overdue → ¬ enumOverdue → s.expireOverdue = s) ∧
    (overdue → ¬ enumOverdue → exec .returnTimeout s = .next s.expireOverdue) ∧
    (¬ overdue → enumOverdue → exec .enumerationTimeout s = .next s.expireOverdue) ∧
    (overdue → enumOverdue →
      ∃ t, exec .returnTimeout s = .next t ∧ exec .enumerationTimeout t = .next s.expireOverdue)

/-! ### Service frames -/

/-- R110, R120, R163, R165: the arrival of a good service frame, in each form: not received; for another part, passed unchanged; addressed
to this part alone, answered with the outcome and forwarded; broadcast, answered by raising the reply value and writing the status over
NO_ANSWER or OK only. What a reply value of FFFFFFFFh is raised to is not stated: a free value (log entry 30). A command that may be
broadcast has the outcome and the effect of the same command addressed to the part alone (R165). UNASSIGNED_COMMAND answers BAD_COMMAND
(R164). -/
def Obligations.ServiceFrameForms : Prop :=
  (∀ (c : Instr) (code : BitVec 8) (f : ServiceFrame), serviceRow c = some (code, f) → ∀ s : State,
    let a := s.received.answer code f
    (s.handler.receives = false → exec c s = .next s.received) ∧
    (s.handler.receives = true → f.destination ≠ 63 → s.handler.position.map (fun p => p.val) ≠ some f.destination.toNat →
      exec c s = .next (s.received.sent code f)) ∧
    (s.TakesAlone f → a.status = .ok → exec c s = .next (a.state.sent code (f.ok a.value))) ∧
    (s.TakesAlone f → a.status ≠ .ok → exec c s = .next (s.received.sent code (f.refused a.status))) ∧
    (s.handler.receives = true → f.destination = 63 →
      exec c s = .next (a.state.sent code { f with
        status := if f.status = 0xFF ∨ f.status = 0 then a.status.code else f.status
        replyValue := if f.status = 0xFF then 1
          else if f.replyValue = 0xFFFFFFFF then Config.replyPastRange s.clock.ticks else f.replyValue + 1 }))) ∧
  (∀ (s : State) (code : BitVec 8) (f : ServiceFrame) (destination : BitVec 6), code.toNat ∈ [2, 3, 5, 6, 7, 9, 11] →
    s.answer code { f with destination } = s.answer code f) ∧
  (∀ (s : State) (code : BitVec 8) (f : ServiceFrame), s.TakesAlone f → assignedCode code = false →
    exec (.unassignedCommand code f) s = .next (s.received.sent code { f with status := 0x01, replyValue := 0 })) ∧
  ∀ (s : State) (code : BitVec 8) (f : ServiceFrame), s.handler.receives = true → f.destination ≠ 63 →
    s.handler.position.map (fun p => p.val) ≠ some f.destination.toNat →
    exec (.serviceFramePass code f) s = .next (s.received.sent code f)

/-- R164: the status codes, and the code and the size of every table. R173 to R175: the fields each table defines. R97, R172, R174: those of
them that a WRITE sets; no field of sources 33 and 35, and of sources 0 to 31 not the kind. R150, R164: the staged and the root-only tables.
R164: the tests that come before a command's own, in their order, and the tests of a table command; a refused command changes nothing
of the part and answers with reply value 0 (R163). R167: CURSOR is refused above the table's size, READ_NEXT and WRITE_NEXT at the end of
the cursor's table and at an effective index beyond it, and else answer as READ and WRITE there. R168: what refuses a bit command; which
word fields are read-only is log entry 11. That a READ of NOTICE tests EMPTY last is log entry 17. -/
def Obligations.RefusalsInOrder : Prop :=
  (let tables : List TableName :=
     [.trackLive, .trackStaged, .laneLive, .laneStaged, .cellLive, .cellStaged, .headerLive, .headerStaged, .event, .source, .gate,
       .mask, .part, .root, .haltRecord, .notice]
   (∀ t, t ∈ tables) ∧ (List.range 16).map TableName.ofCode = tables.map some ∧ (∀ n, 16 ≤ n → TableName.ofCode n = none) ∧
   tables.map TableName.size = [24, 24, 32, 32, 16, 16, 1, 1, 32, 36, 1, 1, 1, 1, 9, 1] ∧
   ([.ok, .badCommand, .badTable, .badIndex, .badField, .badValue, .readOnly, .stageBusy, .wrongState, .notRoot, .cursorEnd,
     .busy, .degraded, .breakOpen, .empty, .countEnd] : List Status).map Status.code = (List.range 16).map (BitVec.ofNat 8) ∧
   (∀ t : TableName, t.staged = true ↔ t ∈ [.trackStaged, .laneStaged, .cellStaged, .headerStaged]) ∧
   (∀ t : TableName, t.rootOnly = true ↔ t ∈ [.root, .haltRecord, .notice]) ∧
   (∀ field : Nat,
     let defined := fun (t : TableName) (last : Nat) => t.defines field = true ↔ field ≤ last
     (TableName.trackLive.defines field = true ↔ field ≤ 10 ∨ 16 ≤ field ∧ field ≤ 20) ∧ defined .trackStaged 10 ∧
     (TableName.laneLive.defines field = true ↔ field ≤ 2 ∨ 16 ≤ field ∧ field ≤ 17) ∧ defined .laneStaged 2 ∧
     defined .cellLive 19 ∧ defined .cellStaged 15 ∧ defined .headerLive 4 ∧ defined .headerStaged 4 ∧ defined .event 18 ∧
     defined .source 2 ∧ defined .gate 0 ∧ defined .mask 0 ∧ defined .part 33 ∧ defined .root 28 ∧ defined .haltRecord 9 ∧
     defined .notice 9) ∧
   ∀ (t : TableName) (index field : Nat), index < t.size → t.defines field = true →
     (t ∈ [.trackStaged, .laneStaged, .cellStaged, .headerStaged, .gate, .mask] → t.writes index field = true) ∧
     (t = .event → (t.writes index field = true ↔ field ≤ 15)) ∧
     (t = .source → (t.writes index field = true ↔ index ≠ 33 ∧ index ≠ 35 ∧ (field = 2 → 32 ≤ index))) ∧
     (t ∈ [.trackLive, .laneLive, .cellLive, .headerLive, .part, .root, .haltRecord, .notice] → t.writes index field = false)) ∧
  (∀ (s : State) (code : BitVec 8) (f : ServiceFrame), (s.answer code f).status ≠ .ok →
    (s.answer code f).state = s ∧ (s.answer code f).value = 0) ∧
  (∀ (s : State) (code : BitVec 8) (f : ServiceFrame),
    (assignedCode code = false → (s.answer code f).status = .badCommand) ∧
    (f.destination = 63 → (∀ n ∈ [2, 3, 5, 6, 7, 9, 11], code.toNat ≠ n) → (s.answer code f).status = .badCommand) ∧
    (f.destination ≠ 63 → s.seq.role = .follower → code.toNat = 10 ∨ 16 ≤ code.toNat ∧ code.toNat ≤ 22 →
      (s.answer code f).status = .notRoot) ∧
    (f.destination ≠ 63 → s.seq.role = .follower → code.toNat ∈ [1, 2, 3, 6, 7, 8] → 13 ≤ f.table.toNat →
      f.table.toNat ≤ 15 → (s.answer code f).status = .notRoot) ∧
    (f.destination ≠ 63 → s.seq.role = .follower → code.toNat ∈ [4, 5] → 13 ≤ s.cursor.table.code →
      (s.answer code f).status = .notRoot) ∧
    (f.destination ≠ 63 → code.toNat ∈ [1, 2, 3, 6, 7, 8] → 16 ≤ f.table.toNat →
      (s.answer code f).status = .badTable) ∧
    (code = 9 → s.plan.pendingActivation ≠ none → (s.answer code f).status = .stageBusy)) ∧
  (∀ (s : State) (f : ServiceFrame) (t : TableName), f.destination ≠ 63 → TableName.ofCode f.table.toNat = some t → s.MayUse t →
    (s.answer 0x01 f).status = (s.readAt t f.index.toNat f.field.toNat).status ∧
    (s.answer 0x02 f).status = (s.writeAt t f.index.toNat f.field.toNat f.value.toNat).status ∧
    (t.size < f.index.toNat → (s.answer 0x03 f).status = .badIndex) ∧
    ∀ code : BitVec 8, code.toNat ∈ [6, 7, 8] →
      let word := t = .gate ∧ f.field = 0 ∨ t = .cellStaged ∧ f.field = 3
      let readOnly := (t, f.field.toNat) ∈
        [(TableName.part, 13), (.part, 20), (.part, 21), (.root, 14), (.cellLive, 3), (.laneLive, 17)]
      (t.size ≤ f.index.toNat → (s.answer code f).status = .badIndex) ∧
      (f.index.toNat < t.size →
        (readOnly → (s.answer code f).status = .readOnly) ∧
        (¬ word → ¬ readOnly → (s.answer code f).status = .badField) ∧
        (word → t = .cellStaged → s.plan.pendingActivation ≠ none → (s.answer code f).status = .stageBusy) ∧
        (word → t = .gate ∨ s.plan.pendingActivation = none → 255 < f.value.toNat →
          (s.answer code f).status = .badValue))) ∧
  (∀ (s : State) (f : ServiceFrame), f.destination ≠ 63 → s.MayUse s.cursor.table →
    let t := s.cursor.table
    let index := s.cursor.index + f.offset.toNat
    (t.size ≤ s.cursor.index → (s.answer 0x04 f).status = .cursorEnd ∧ (s.answer 0x05 f).status = .cursorEnd) ∧
    (s.cursor.index < t.size →
      (s.answer 0x04 f).status = (s.readAt t index f.field.toNat).status ∧
      (s.answer 0x05 f).status = (s.writeAt t index f.field.toNat f.value.toNat).status)) ∧
  (∀ (s : State) (t : TableName) (index field : Nat),
    let inside := index < t.size ∧ (t = .haltRecord → index ≤ s.root.haltRecord.entries.length)
    (¬ inside → (s.readAt t index field).status = .badIndex) ∧
    (inside → t.defines field = false → (s.readAt t index field).status = .badField) ∧
    (inside → t.defines field = true → t = .notice → s.root.lastNotice = none →
      (s.readAt t index field).status = .empty)) ∧
  ∀ (s : State) (t : TableName) (index field v : Nat),
    (t.size ≤ index → (s.writeAt t index field v).status = .badIndex) ∧
    (index < t.size → t.defines field = false → (s.writeAt t index field v).status = .badField) ∧
    (index < t.size → t.defines field = true → t.writes index field = false →
      (s.writeAt t index field v).status = .readOnly) ∧
    (index < t.size → t.defines field = true → t.staged = true → s.plan.pendingActivation ≠ none →
      (s.writeAt t index field v).status = .stageBusy) ∧
    (index < t.size → t.defines field = true → t.writes index field = true →
      (t.staged = false ∨ s.plan.pendingActivation = none) → s.writeField t index field v = none →
      (s.writeAt t index field v).status = .badValue)

/-- R166, R167: READ answers the field named; READ_NEXT that of the cursor's table at the effective index, and the cursor moves past it.
R173 to R175: the fields of every table in the order of their numbers, the choices by their codes, a 48-bit value as its low 32 and its
high bits. That the parts of an absent F, target, decision step, pending or announced activation read 0 is log entry 28. -/
def Obligations.ReadsAnswerFields : Prop :=
  (∀ (s : State) (f : ServiceFrame) (t : TableName), s.TakesAlone f → TableName.ofCode f.table.toNat = some t → s.MayUse t →
    f.index.toNat < t.size → t.defines f.field.toNat = true →
    (t = .haltRecord → f.index.toNat ≤ s.root.haltRecord.entries.length) → (t = .notice → s.root.lastNotice ≠ none) →
    exec (.read f) s = .next (s.received.sent 0x01 (f.ok (s.fieldValue t f.index.toNat f.field.toNat)))) ∧
  (∀ (s : State) (f : ServiceFrame), s.TakesAlone f → s.MayUse s.cursor.table →
    s.cursor.index + f.offset.toNat < s.cursor.table.size → s.cursor.table.defines f.field.toNat = true →
    (s.cursor.table = .haltRecord → s.cursor.index + f.offset.toNat ≤ s.root.haltRecord.entries.length) →
    (s.cursor.table = .notice → s.root.lastNotice ≠ none) →
    exec (.readNext f) s =
      .next ((s.received.setCursor { s.cursor with index := s.cursor.index + f.offset.toNat + 1 }).sent 0x04
        (f.ok (s.fieldValue s.cursor.table (s.cursor.index + f.offset.toNat) f.field.toNat)))) ∧
  (∀ s : State,
    let low := fun n : Nat => n % 2 ^ 32
    let high := fun n : Nat => n / 2 ^ 32
    let read := fun (t : TableName) (index first count : Nat) => (List.range' first count).map (s.fieldValue t index)
    let bits := fun levels : List Bool => (levels.zipIdx.map fun b => b.1.toNat * 2 ^ b.2).sum
    let track := fun r : TrackRecord =>
      [r.mode.code, r.parent.val, r.increment, r.high, r.low, r.initialLevel.toNat, r.phaseOffset, r.gateSource.code,
        r.gatePolarity.code, r.gateStyle.code, r.restartOnActivation.toNat]
    let lane := fun r : LaneRecord => [r.source.code, r.invert.toNat, r.retard.val]
    let cell := fun c : CellConfig =>
      [c.selector0.val, c.selector1.val, c.selector2.val, bits c.truth.toList, c.mode.code, c.edge.code, c.length,
        c.initialOutput.toNat] ++ c.truth.toList.map Bool.toNat
    let header := fun h : Header => [h.pace, h.spacing, h.lead, h.beatTimeout, h.returnTimeout]
    let logged := fun n : LoggedRequest =>
      [n.request.position, n.request.source, n.request.kind.slotCode, n.request.level, low n.request.causeStep,
        high n.request.causeStep, n.request.merged, low n.arrivalStep, high n.arrivalStep, n.late.toNat]
    (∀ i : Fin 24, let t := s.tracks[i]
      read .trackStaged i 0 11 = track s.plan.staged.tracks[i] ∧ read .trackLive i 0 11 = track s.plan.live.tracks[i] ∧
      read .trackLive i 16 5 = [t.phase, t.level.toNat, t.edges, t.lastEdge.code, t.closePending.toNat]) ∧
    (∀ i : Fin 32, let l := s.lanes[i]
      read .laneStaged i 0 3 = lane s.plan.staged.lanes[i] ∧ read .laneLive i 0 3 = lane s.plan.live.lanes[i] ∧
      read .laneLive i 16 2 = [l.output.toNat, bits l.history.toList]) ∧
    (∀ i : Fin 16, let c := s.cells[i]
      read .cellStaged i 0 16 = cell s.plan.staged.cells[i] ∧ read .cellLive i 0 16 = cell s.plan.live.cells[i] ∧
      read .cellLive i 16 4 = [c.value.toNat, c.timer, c.output.toNat, c.lastChange.code]) ∧
    read .headerStaged 0 0 5 = header s.plan.staged.header ∧ read .headerLive 0 0 5 = header s.plan.live.header ∧
    (∀ i : Fin 32, let e := s.events.entries[i]
      read .event i 0 19 =
        [e.enabled.toNat, e.type.code, e.base.code, e.baseTrack.val, low e.value, high e.value, e.period, e.captureCell.val,
          e.captureEdge.code, e.keepFirst.toNat, e.limit, e.gateOp.code, e.gateFlag.val,
          (match e.marker with | none => 0 | some m => m.val + 1), kindCode e.requestKind, e.requestWhen.code, e.remaining,
          e.hits, e.done.toNat]) ∧
    (∀ i : Fin 36, read .source i 0 2 = [(s.requests.settings[i]).enable.toNat, (s.requests.settings[i]).level.val]) ∧
    (∀ (i : Fin 32), s.fieldValue .source i.val 2 = kindCode (s.events.entries[i]).requestKind) ∧
    read .source 32 2 1 ++ read .source 33 2 1 ++ read .source 34 2 1 ++ read .source 35 2 1 =
      [kindCode s.requests.underrunKind, 3, kindCode s.requests.clampKind, 3] ∧
    s.fieldValue .gate 0 0 = bits s.events.gates.toList ∧ s.fieldValue .mask 0 0 = s.requests.mask.val ∧
    (let q := s.seq
     let h := s.handler
     let u := s.requests
     let waiting := u.waiting.toList.map Option.isSome
     let a := s.plan.pendingActivation.getD { stage := 0, step := 0 }
     read .part 0 0 34 =
       [q.runState.code, q.role.code, (match h.position with | none => 63 | some p => p.val), low q.step, high q.step,
         low q.grant, high q.grant, q.haltStep.isSome.toNat, low (q.haltStep.getD 0), high (q.haltStep.getD 0),
         q.haltKind.code, (match q.originNumber with | none => 256 | some n => n), q.resetCause.code,
         bits [q.referencePresent, q.referenceLost, q.ringSilent, h.ringIn, h.ringOut], q.underrunCount, q.silenceCount,
         q.referenceLossCount, h.checkErrors, h.unknowns, h.outputDrops, bits (waiting.take 32), bits (waiting.drop 32),
         u.droppedCount, u.mergedCount, u.cancelCount, u.placedCount, s.plan.liveStage,
         (if s.plan.pendingActivation = none then 0 else 256 + a.stage), low a.step, high a.step, s.plan.clampsAtLast,
         s.plan.lateCount, s.cursor.table.code, s.cursor.index]) ∧
    (let r := s.root
     let a := s.plan.announced.getD { stage := 0, step := 0 }
     let oldest := match r.outstanding with
       | [] => [0, 0, 0, 0]
       | e :: _ => [e.sequence, low e.grant, high e.grant, min (s.clock.time - e.emissionTime) 65535]
     read .root 0 0 29 =
       [low r.rootGrant, high r.rootGrant, r.target.isSome.toNat, low (r.target.getD 0), high (r.target.getD 0),
         r.nextSequence, r.emissionDue.toNat, r.outstanding.length] ++ oldest ++
       [(match r.announcedOrigin with | none => 256 | some n => n), r.originOutstanding.toNat,
         bits [r.ringUnsynchronised, r.leadShort, s.handler.enumerationOutstanding, s.handler.enumerationLost],
         r.largestRoundTrip, r.lostCount, r.foreignCount, r.deferredCount, r.noticeDropCount, s.handler.ringSize.getD 0,
         s.handler.excessCount, s.plan.announced.isSome.toNat, a.stage, low a.step, high a.step, s.plan.nextStage,
         r.notices.length, s.handler.enumerationTimer]) ∧
    (let h := s.root.haltRecord
     read .haltRecord 0 0 10 =
       [h.isOpen.toNat, h.kind.code, h.haltStep.isSome.toNat, low (h.haltStep.getD 0), high (h.haltStep.getD 0),
         h.decisionStep.isSome.toNat, low (h.decisionStep.getD 0), high (h.decisionStep.getD 0), h.entries.length,
         h.overflowCount] ∧
     ∀ (k : Nat) (n : LoggedRequest), h.entries[k]? = some n → read .haltRecord (k + 1) 0 10 = logged n) ∧
    ∀ n, s.root.lastNotice = some n → read .notice 0 0 10 = logged n) ∧
  ([TrackMode.off, .free, .follow].map TrackMode.code = [0, 1, 2] ∧ GateSource.none.code = 0 ∧
    (∀ g, (GateSource.flag g).code = 1 + g.val) ∧ (∀ c, (GateSource.cell c).code = 9 + c.val) ∧
    [GatePolarity.openHigh, .openLow].map GatePolarity.code = [0, 1] ∧ [GateStyle.clean, .hard].map GateStyle.code = [0, 1] ∧
    [Change.noChange, .rise, .fall].map Change.code = [0, 1, 2] ∧ (∀ t, (LaneSource.track t).code = t.val) ∧
    [LaneSource.parity, .low].map LaneSource.code = [24, 25] ∧
    [CellMode.plain, .filter, .stretch, .count, .settle, .rate].map CellMode.code = [0, 1, 2, 3, 4, 5] ∧
    [CellEdge.rise, .fall, .both].map CellEdge.code = [0, 1, 2] ∧ [EventType.compare, .capture].map EventType.code = [0, 1] ∧
    [EventBase.step, .edges].map EventBase.code = [0, 1] ∧ [CaptureEdge.rise, .fall].map CaptureEdge.code = [0, 1] ∧
    [GateOp.none, .set, .clear, .toggle].map GateOp.code = [0, 1, 2, 3] ∧
    [none, some Kind.mark, some .pause, some .brk].map kindCode = [0, 1, 2, 3] ∧
    [Kind.mark, .pause, .brk].map Kind.slotCode = [0, 1, 2] ∧ [RequestWhen.each, .last].map RequestWhen.code = [0, 1] ∧
    [RunState.cold, .idle, .ready, .run, .halting, .halted, .broken, .stranded].map RunState.code = [0, 1, 2, 3, 4, 5, 6, 7] ∧
    [Role.follower, .root].map Role.code = [0, 1] ∧ [HaltKind.pause, .brk].map HaltKind.code = [0, 1] ∧
    [ResetCause.power, .pin].map ResetCause.code = [0, 1] ∧
    ∀ n t, TableName.ofCode n = some t ↔ n = t.code)

/-- R166, R167, R169, R150: WRITE and WRITE_NEXT set one field of a writable table, checked against its range alone; CURSOR sets the cursor;
COPY_LIVE copies the live bank into the staged one. Each answers OK with reply value 0 and changes nothing else of the part. Which record of
which table a write replaces. -/
def Obligations.StagedWritesAndCursor : Prop :=
  (∀ (s : State) (f : ServiceFrame) (r : TrackRecord) (i : Fin 24), s.TakesAlone f → f.table = 0x01 → f.index.toNat = i.val →
    f.field.toNat ≤ 10 → s.plan.pendingActivation = none →
    (s.plan.staged.tracks[i]).write f.field.toNat f.value.toNat = some r →
    exec (.write f) s =
      .next ((s.received.setPlan { s.plan with
        staged := { s.plan.staged with tracks := s.plan.staged.tracks.set i r } }).sent 0x02 (f.ok 0))) ∧
  (∀ (s : State) (f : ServiceFrame) (t : TableName) (after : State), s.TakesAlone f → TableName.ofCode f.table.toNat = some t →
    f.index.toNat < t.size → t.defines f.field.toNat = true → t.writes f.index.toNat f.field.toNat = true →
    (t.staged = true → s.plan.pendingActivation = none) →
    s.received.writeField t f.index.toNat f.field.toNat f.value.toNat = some after →
    exec (.write f) s = .next (after.sent 0x02 (f.ok 0))) ∧
  (∀ (s : State) (f : ServiceFrame) (after : State), s.TakesAlone f →
    let t := s.cursor.table
    let index := s.cursor.index + f.offset.toNat
    index < t.size → t.defines f.field.toNat = true → t.writes index f.field.toNat = true →
    (t.staged = true → s.plan.pendingActivation = none) →
    s.received.writeField t index f.field.toNat f.value.toNat = some after →
    exec (.writeNext f) s = .next ((after.setCursor { table := t, index := index + 1 }).sent 0x05 (f.ok 0))) ∧
  (∀ (s : State) (field v : Nat),
    let p := s.plan.staged
    let staged := fun p' : Plan => s.setPlan { s.plan with staged := p' }
    (∀ i : Fin 24, s.writeField .trackStaged i field v =
      ((p.tracks[i]).write field v).map fun r => staged { p with tracks := p.tracks.set i r }) ∧
    (∀ i : Fin 32, s.writeField .laneStaged i field v =
      ((p.lanes[i]).write field v).map fun r => staged { p with lanes := p.lanes.set i r }) ∧
    (∀ i : Fin 16, s.writeField .cellStaged i field v =
      ((p.cells[i]).write field v).map fun c => staged { p with cells := p.cells.set i c }) ∧
    s.writeField .headerStaged 0 field v = (p.header.write field v).map (fun h => staged { p with header := h }) ∧
    (∀ i : Fin 32, s.writeField .event i field v =
      ((s.events.entries[i]).write field v).map fun e =>
        s.setEvents { s.events with entries := s.events.entries.set i e }) ∧
    (∀ i : Fin 36, s.writeField .source i field v = (s.requests.write i field v).map s.setRequests)) ∧
  (∀ (s : State) (f : ServiceFrame) (t : TableName), s.TakesAlone f → TableName.ofCode f.table.toNat = some t → s.MayUse t →
    f.index.toNat ≤ t.size →
    exec (.cursor f) s = .next ((s.received.setCursor { table := t, index := f.index.toNat }).sent 0x03 (f.ok 0))) ∧
  ∀ (s : State) (f : ServiceFrame), s.TakesAlone f → s.plan.pendingActivation = none →
    exec (.copyLive f) s = .next ((s.received.setPlan { s.plan with staged := s.plan.live }).sent 0x09 (f.ok 0))

/-- R78, R89, R97, R98, R102: the writes with an effect of their own: an entry's limit reloads remaining and clears done; a source's
enable or level, and M, re-test the pending set; the kind of UNDERRUN (source 32) or of PLAN_CLAMP (source 34) is set alone; the gate word
replaces all eight flags. Each answers OK with reply value 0. -/
def Obligations.WritesWithEffect : Prop :=
  (∀ (s : State) (f : ServiceFrame) (i : Fin 32), s.TakesAlone f → f.index.toNat = i.val → f.value.toNat ≤ 65535 →
    exec (.eventLimitWrite f) s =
      .next ((s.received.setEvents { s.events with
        entries := s.events.entries.set i { s.events.entries[i] with
          limit := f.value.toNat, remaining := f.value.toNat, done := false } }).sent 0x02
        (({ f with table := 0x08, field := 0x0A } : ServiceFrame).ok 0))) ∧
  (∀ (s : State) (f : ServiceFrame) (i : Fin 36), s.TakesAlone f → f.index.toNat = i.val → i ≠ 33 → i ≠ 35 →
    (∀ v : Fin 4, f.field = 1 → f.value.toNat = v.val →
      exec (.sourceWrite f) s =
        .next ((s.received.setRequests (s.requests.writeLevel i v)).sent 0x02 (({ f with table := 0x09 } : ServiceFrame).ok 0))) ∧
    (f.field = 0 → f.value.toNat ≤ 1 →
      exec (.sourceWrite f) s =
        .next ((s.received.setRequests (s.requests.writeEnable i (f.value == 1))).sent 0x02
          (({ f with table := 0x09 } : ServiceFrame).ok 0))) ∧
    ∀ kind : Option Kind, f.field = 2 →
      f.value.toNat = (match kind with | none => 0 | some .mark => 1 | some .pause => 2 | some .brk => 3) →
      let written := fun u : RequestUnit =>
        exec (.sourceWrite f) s = .next ((s.received.setRequests u).sent 0x02 (({ f with table := 0x09 } : ServiceFrame).ok 0))
      (i = 32 → written { s.requests with underrunKind := kind }) ∧ (i = 34 → written { s.requests with clampKind := kind })) ∧
  (∀ (s : State) (f : ServiceFrame) (v : Fin 4), s.TakesAlone f → f.index = 0 → f.field = 0 → f.value.toNat = v.val →
    exec (.maskWrite f) s =
      .next ((s.received.setRequests (s.requests.writeMask v)).sent 0x02 (({ f with table := 0x0B } : ServiceFrame).ok 0))) ∧
  ∀ (s : State) (f : ServiceFrame), s.TakesAlone f → f.index = 0 → f.field = 0 → f.value.toNat ≤ 255 →
    ∃ gates : Vector Bool 8, (∀ g : Fin 8, gates[g] = f.value.getLsbD g.val) ∧
      exec (.gateWrite f) s =
        .next ((s.received.setEvents { s.events with gates }).sent 0x02 (({ f with table := 0x0A } : ServiceFrame).ok 0))

/-- R89, R168: SET_BITS, CLEAR_BITS and TEST_SET on the gate word and on the truth-table word of a staged cell; TEST_SET answers the word
as it stood. -/
def Obligations.BitCommands : Prop :=
  ∀ (s : State) (f : ServiceFrame), s.TakesAlone f → f.value.toNat ≤ 255 →
    let set := fun levels : Vector Bool 8 => tabulate fun k : Fin 8 => levels[k] || f.value.getLsbD k.val
    let clear := fun levels : Vector Bool 8 => tabulate fun k : Fin 8 => levels[k] && !f.value.getLsbD k.val
    let onGates := fun levels : Vector Bool 8 => s.received.setEvents { s.events with gates := levels }
    (f.table = 0x0A → f.index = 0 → f.field = 0 →
      exec (.setBits f) s = .next ((onGates (set s.events.gates)).sent 0x06 (f.ok 0)) ∧
      exec (.clearBits f) s = .next ((onGates (clear s.events.gates)).sent 0x07 (f.ok 0)) ∧
      exec (.testSet f) s = .next ((onGates (set s.events.gates)).sent 0x08 (f.ok (wordOf s.events.gates)))) ∧
    ∀ i : Fin 16, f.table = 0x05 → f.index.toNat = i.val → f.field = 3 → s.plan.pendingActivation = none →
      let onTruth := fun levels : Vector Bool 8 =>
        s.received.setPlan { s.plan with staged := { s.plan.staged with
          cells := s.plan.staged.cells.set i { s.plan.staged.cells[i] with truth := levels } } }
      let truth := (s.plan.staged.cells[i]).truth
      exec (.setBits f) s = .next ((onTruth (set truth)).sent 0x06 (f.ok 0)) ∧
      exec (.clearBits f) s = .next ((onTruth (clear truth)).sent 0x07 (f.ok 0)) ∧
      exec (.testSet f) s = .next ((onTruth (set truth)).sent 0x08 (f.ok (wordOf truth)))

/-- R143, R169: TAKE_NOTICE at the root removes the oldest notice, which becomes the last taken one, and answers its summary; with the
queue empty it answers EMPTY. -/
def Obligations.TakeNotice : Prop :=
  ∀ (s : State) (f : ServiceFrame), s.TakesAlone f → s.seq.role = .root →
    (∀ (n : LoggedRequest) (rest : List LoggedRequest), s.root.notices = n :: rest →
      exec (.takeNotice f) s =
        .next ((s.received.setRoot { s.root with notices := rest, lastNotice := some n }).sent 0x0A
          (f.ok (n.request.position + 2 ^ 6 * n.request.source +
            2 ^ 12 * (match n.request.kind with | .mark => 0 | .pause => 1 | .brk => 2) + 2 ^ 14 * n.request.level +
            2 ^ 16 * n.request.merged + 2 ^ 20 * n.late.toNat + 2 ^ 24 * rest.length)))) ∧
    (s.root.notices = [] →
      exec (.takeNotice f) s = .next (s.received.sent 0x0A { f with status := 0x0E, replyValue := 0 }))

/-- R144, R145, R146: RUN and RUN_FOR taken in READY or HALTED start a run with its target and emit at once, with the reference absent too
(log entry 27), or defer the emission with a full list (log entry 13); RUN_FOR in RUN sets the target alone; both are refused BUSY,
DEGRADED or COUNT_END by the first that holds. That the halt kind stays as it was when a run starts is log entry 14. -/
def Obligations.RunStartsWithEmission : Prop :=
  ∀ (s : State) (f : ServiceFrame), s.TakesAlone f → s.seq.role = .root →
    let started := fun target : Option Nat =>
      (s.received.setRoot { s.root with
        target, emissionCount := 0, haltRecord := { s.root.haltRecord with isOpen := false }
        outstanding := s.root.outstanding.map fun e => { e with haltCurrent := false } }).setSeq
        { s.seq with haltStep := none, runState := .run }
    let deferred := fun t : State =>
      t.setRoot { t.root with emissionDue := true, deferredCount := min (s.root.deferredCount + 1) 65535 }
    let T := min (s.seq.step + f.value.toNat) (2 ^ 48 - 1)
    (s.seq.runState = .ready ∨ s.seq.runState = .halted →
      let bothRefused := fun status : BitVec 8 =>
        exec (.run f) s = .next (s.received.sent 0x10 { f with status, replyValue := 0 }) ∧
          (f.value ≠ 0 → exec (.runFor f) s = .next (s.received.sent 0x11 { f with status, replyValue := 0 }))
      (s.root.originOutstanding = true → bothRefused 0x0B) ∧
      (s.root.originOutstanding = false → s.root.ringUnsynchronised = true → bothRefused 0x0C) ∧
      (s.root.originOutstanding = false → s.root.ringUnsynchronised = false → s.seq.step = 2 ^ 48 - 1 → bothRefused 0x0F) ∧
      (s.root.originOutstanding = false → s.root.ringUnsynchronised = false → s.seq.step ≠ 2 ^ 48 - 1 →
        (s.root.outstanding.length < 32 →
          exec (.run f) s = .next ((started none).emit.sent 0x10 (f.ok 0)) ∧
          (f.value ≠ 0 → exec (.runFor f) s = .next ((started (some T)).emit.sent 0x11 (f.ok (T - s.seq.step))))) ∧
        (32 ≤ s.root.outstanding.length →
          exec (.run f) s = .next ((deferred (started none)).sent 0x10 (f.ok 0)) ∧
          (f.value ≠ 0 →
            exec (.runFor f) s = .next ((deferred (started (some T))).sent 0x11 (f.ok (T - s.seq.step))))))) ∧
    (s.seq.runState = .run → f.value ≠ 0 →
      let T' := min (max s.root.rootGrant (s.seq.step + f.value.toNat)) (2 ^ 48 - 1)
      exec (.runFor f) s =
        .next ((s.received.setRoot { s.root with target := some T' }).sent 0x11 (f.ok (T' - s.seq.step))))

/-- R147, R153, R125: PAUSE taken in RUN decides the halt with cause CONTROL; CLEAR_BREAK taken in BROKEN makes the halt a PAUSE; SWAP
announces the next stage at the step after G_root, pending at the root too; ENUMERATE emits the ENUM frame and enters READY. -/
def Obligations.PauseClearBreakSwapEnumerate : Prop :=
  ∀ (s : State) (f : ServiceFrame), s.TakesAlone f → s.seq.role = .root →
    (s.seq.runState = .run →
      exec (.pause f) s =
        .next ((s.received.decideHalt
          { position := 0, source := 40, kind := .pause, level := 3, causeStep := s.seq.step, merged := 0 }).sent 0x12 (f.ok 0))) ∧
    (s.seq.runState = .broken →
      exec (.clearBreak f) s =
        .next (((s.received.setRoot { s.root with haltRecord := { s.root.haltRecord with kind := .pause } }).setSeq
          { s.seq with haltKind := .pause, runState := .halted }).sent 0x13 (f.ok 0))) ∧
    (s.seq.runState ≠ .cold → s.seq.runState ≠ .idle → s.plan.announced = none → s.root.rootGrant ≠ 2 ^ 48 - 1 →
      let n := (s.plan.nextStage + 1) % 256
      let a : Activation := { stage := n, step := s.root.rootGrant + 1 }
      exec (.swap f) s =
        .next ((s.received.setPlan { s.plan with
          nextStage := n, announced := some a, pendingActivation := some a }).sent 0x15 (f.ok n))) ∧
    (s.seq.runState = .idle ∨ s.seq.runState = .ready → s.handler.enumerationOutstanding = false →
      exec (.enumerate f) s =
        .next ((((s.setHandler { s.handler with
            reception := .between, enumerationOutstanding := true, enumerationTimer := 0, enumerationLost := false }).setSeq
          { s.seq with runState := .ready }).hand
            (writtenEnum { reserved := 0, nextPosition := 1, excessCount := 0 })).sent 0x16 (f.ok 0)))

/-- R144, R153, R125: what refuses a root command, by the root's state; RUN_FOR with a count of 0 is refused before the state is looked at
(R164); and a PAUSE of a halt in force answers OK and changes nothing. -/
def Obligations.RootCommandsByState : Prop :=
  (∀ (s : State) (f : ServiceFrame), s.seq.role = .root → s.seq.runState ≠ .cold → f.destination ≠ 63 →
    let refused := fun (code : BitVec 8) (status : Status) => (s.answer code f).status = status
    let state := s.seq.runState
    (state ∈ [.idle, .run, .halting, .stranded] → refused 0x10 .wrongState) ∧ (state = .broken → refused 0x10 .breakOpen) ∧
    (f.value = 0 → refused 0x11 .badValue) ∧
    (f.value ≠ 0 →
      (state ∈ [.idle, .halting, .stranded] → refused 0x11 .wrongState) ∧ (state = .broken → refused 0x11 .breakOpen) ∧
      (state ∈ [.ready, .halted] → refused 0x11 (s.answer 0x10 f).status)) ∧
    (state ∈ [.idle, .ready, .stranded] → refused 0x12 .wrongState) ∧
    (state ≠ .broken → refused 0x13 .wrongState) ∧
    (state ∈ [.idle, .run, .halting] → refused 0x14 .wrongState) ∧
    (state ∈ [.ready, .halted, .broken, .stranded] → s.root.originOutstanding = true → refused 0x14 .busy) ∧
    (state = .idle → refused 0x15 .wrongState) ∧ (state ≠ .idle → s.plan.announced ≠ none → refused 0x15 .stageBusy) ∧
    (state ≠ .idle → s.plan.announced = none → s.root.rootGrant = 2 ^ 48 - 1 → refused 0x15 .countEnd) ∧
    (state ∉ [.idle, .ready] → refused 0x16 .wrongState) ∧
    (state ∈ [.idle, .ready] → s.handler.enumerationOutstanding = true → refused 0x16 .busy)) ∧
  ∀ (s : State) (f : ServiceFrame), s.TakesAlone f → s.seq.role = .root →
    s.seq.runState = .halting ∨ s.seq.runState = .halted ∨ s.seq.runState = .broken →
    exec (.pause f) s = .next (s.received.sent 0x12 (f.ok 0))

/-- R148: ORIGIN taken at the root in READY, HALTED, BROKEN or STRANDED with no announcement outstanding performs origin with the next
origin number (R19, R160) and announces it, and answers OK; where that applies a pending activation, a timeout that the new header has
already reached expires at once (R159; its place, as the origin ends, is log entry 25). R171, R22: RESET_PART at a follower restarts the
per-step blocks without an origin. R149: at the root it clears the items of the timebase, and outside IDLE announces an origin as ORIGIN
does. The restart sets C and G to 0, F to absent, the kind to PAUSE and a numbered run state to READY, leaves a follower with no origin
number and a running watchdog, clears the latched flags, restarts every track (R43), fills every lane (R53), restarts every cell with the
gate flags as 0 (R72), clears the hits, the done marks, the gate flags and the markers (R93), and empties the pending set; a pending
activation stays. The kind PAUSE of the cleared halt record is the model's (log entry 3). -/
def Obligations.OriginAndResetPart : Prop :=
  let announced := fun u : State =>
    let number := match u.root.announcedOrigin with | none => 0 | some n => (n + 1) % 256
    let t := u.performOrigin number
    let a := (t.setRoot { u.root with
        announcedOrigin := some number, rootGrant := 0, target := none, originOutstanding := true
        haltRecord := { u.root.haltRecord with isOpen := false }
        outstanding := u.root.outstanding.map fun e =>
          { e with haltCurrent := false, originCurrent := false, numberingCurrent := false } }).setPlan
      { t.plan with announced := u.plan.announced.map fun a => { a with step := 0 } }
    if u.plan.pendingActivation = none then a else a.expireOverdue
  (∀ (s : State) (f : ServiceFrame), s.TakesAlone f → s.seq.role = .root →
    s.seq.runState = .ready ∨ s.seq.runState = .halted ∨ s.seq.runState = .broken ∨ s.seq.runState = .stranded →
    s.root.originOutstanding = false → exec (.origin f) s = .next ((announced s.received).sent 0x14 (f.ok 0))) ∧
  (∀ (s : State) (f : ServiceFrame), s.TakesAlone f → s.seq.role = .follower →
    exec (.resetPart f) s = .next (s.received.resetBlocks.sent 0x0B (f.ok 0))) ∧
  (∀ (s : State) (f : ServiceFrame), s.TakesAlone f → s.seq.role = .root →
    let cleared := s.received.setRoot { s.root with
      rootGrant := 0, target := none, emissionCount := 0, emissionDue := false, outstanding := [], notices := []
      lastNotice := none
      haltRecord :=
        { isOpen := false, kind := .pause, haltStep := none, decisionStep := none, entries := [], overflowCount := 0 } }
    (s.seq.runState = .idle → exec (.resetPart f) s = .next (cleared.resetBlocks.sent 0x0B (f.ok 0))) ∧
    (s.seq.runState ≠ .idle → s.seq.runState ≠ .cold →
      exec (.resetPart f) s = .next ((announced cleared).sent 0x0B (f.ok 0)))) ∧
  ∀ s : State,
    let t := s.resetBlocks
    let live := s.plan.live
    t.seq = { s.seq with
      step := 0, grant := 0, haltStep := none, haltKind := .pause
      runState := if s.seq.runState = .cold ∨ s.seq.runState = .idle then s.seq.runState else .ready
      originNumber := if s.seq.role = .follower then none else s.seq.originNumber
      ringSilent := false, referenceLost := false
      watchdog := if s.seq.role = .follower then .running s.clock.time live.header.beatTimeout else s.seq.watchdog } ∧
    (∀ i : Fin 24, t.tracks[i] = (live.tracks[i]).restarted) ∧
    (∀ i : Fin 32,
      (∀ k : Fin 16, (t.lanes[i]).history[k] = (live.lanes[i]).source.value t.tracks 0) ∧
      (t.lanes[i]).output = ((live.lanes[i]).source.value t.tracks 0 ^^ (live.lanes[i]).invert)) ∧
    (∀ i : Fin 16, t.cells[i] =
      { value := (live.cells[i]).truthValue
          (selected (fun _ => false) (fun k => (t.tracks[k]).level) (fun c => (live.cells[c]).initialOutput) (fun _ => false))
        timer := 0, output := (live.cells[i]).initialOutput, lastChange := .noChange }) ∧
    (∀ i : Fin 32, t.events.entries[i] =
      { s.events.entries[i] with done := false, hits := 0, remaining := (s.events.entries[i]).limit }) ∧
    (∀ g : Fin 8, t.events.gates[g] = false ∧ t.events.markers[g] = false) ∧
    t.requests = { s.requests with waiting := Vector.replicate 36 none } ∧
    t.plan = s.plan ∧ t.root = s.root ∧ t.handler = s.handler ∧ t.cursor = s.cursor ∧ t.clock = s.clock ∧ t.pending = s.pending

/-- R24, R48, R58, R77, R97, R98, R150: a field takes a value exactly if it is in the field's range. What a write stores is what a read then
gives, and every other field of the record reads as before, but that a truth-table entry is a bit of the truth-table word (R173), and that
an event entry's limit reloads remaining and clears done (R78). -/
def Obligations.WriteRanges : Prop :=
  (∀ v : Nat,
    let ranges := fun (accepts : Nat → Bool) (l : List (Nat × Nat)) =>
      ∀ (field low high : Nat), l[field]? = some (low, high) → (accepts field = true ↔ low ≤ v ∧ v ≤ high)
    (∀ r : TrackRecord, ranges (fun field => (r.write field v).isSome)
      [(0, 2), (0, 23), (1, 4095), (1, 65535), (1, 65535), (0, 1), (0, 65535), (0, 24), (0, 1), (0, 1), (0, 1)]) ∧
    (∀ r : LaneRecord, ranges (fun field => (r.write field v).isSome) [(0, 25), (0, 1), (0, 15)]) ∧
    (∀ c : CellConfig, ranges (fun field => (c.write field v).isSome)
      [(0, 63), (0, 63), (0, 63), (0, 255), (0, 5), (0, 2), (1, 4095), (0, 1), (0, 1), (0, 1), (0, 1), (0, 1), (0, 1),
        (0, 1), (0, 1), (0, 1)]) ∧
    (∀ h : Header, ranges (fun field => (h.write field v).isSome)
      [(4, 65535), (1, 64), (1, 4095), (1, 65535), (1, 65535)]) ∧
    (∀ e : EventEntry, ranges (fun field => (e.write field v).isSome)
      [(0, 1), (0, 1), (0, 1), (0, 23), (0, 2 ^ 32 - 1), (0, 65535), (0, 2 ^ 32 - 1), (0, 15), (0, 1), (0, 1), (0, 65535),
        (0, 3), (0, 7), (0, 8), (0, 3), (0, 1)]) ∧
    (∀ (u : RequestUnit) (i : Fin 36), ranges (fun field => (u.write i field v).isSome) [(0, 1), (0, 3), (0, 3)]) ∧
    ∀ s : State, ((s.writeField .mask 0 0 v).isSome = true ↔ v ≤ 3) ∧ ((s.writeField .gate 0 0 v).isSome = true ↔ v ≤ 255)) ∧
  (∀ field v : Nat,
    (∀ r r' : TrackRecord, r.write field v = some r' → r'.field field = v ∧ ∀ g, g ≠ field → r'.field g = r.field g) ∧
    (∀ r r' : LaneRecord, r.write field v = some r' → r'.field field = v ∧ ∀ g, g ≠ field → r'.field g = r.field g) ∧
    (∀ h h' : Header, h.write field v = some h' → h'.field field = v ∧ ∀ g, g ≠ field → h'.field g = h.field g) ∧
    (∀ c c' : CellConfig, c.write field v = some c' → c'.field field = v ∧
      (∀ g, g ≠ field → ¬ (field = 3 ∧ 8 ≤ g) → ¬ (8 ≤ field ∧ g = 3) → c'.field g = c.field g) ∧
      ∀ k : Fin 8, (field = 3 → c'.field (8 + k.val) = (v.testBit k.val).toNat) ∧
        (8 ≤ field → (c'.field 3).testBit k.val = decide (c'.field (8 + k.val) = 1))) ∧
    (∀ e e' : EventEntry, e.write field v = some e' → e'.field field = v ∧
      (∀ g, g ≠ field → ¬ (field = 10 ∧ (g = 16 ∨ g = 18)) → e'.field g = e.field g) ∧
      (field = 10 → e'.field 16 = v ∧ e'.field 18 = 0))) ∧
  ∀ (s t : State) (v : Nat),
    (s.writeField .mask 0 0 v = some t → t.fieldValue .mask 0 0 = v) ∧
    (s.writeField .gate 0 0 v = some t → t.fieldValue .gate 0 0 = v) ∧
    ∀ (i : Fin 36) (field : Nat), TableName.source.writes i field = true → s.writeField .source i field v = some t →
      t.fieldValue .source i field = v ∧
        ∀ (j : Fin 36) (g : Nat), j ≠ i ∨ g ≠ field → t.fieldValue .source j g = s.fieldValue .source j g
end

