-- ==== Sys2Proof/Laws/State.lean ====
section
/-! SUPPORT. What each update of State leaves in each field: one lemma per field per update. -/

namespace Sys2Proof.Machine

namespace State

variable (s : State)

/-! ### setSeq -/

@[simp] theorem setSeq_seq (x : Sequencer) : (s.setSeq x).seq = x := rfl
@[simp] theorem setSeq_tracks (x : Sequencer) : (s.setSeq x).tracks = s.tracks := rfl
@[simp] theorem setSeq_lanes (x : Sequencer) : (s.setSeq x).lanes = s.lanes := rfl
@[simp] theorem setSeq_cells (x : Sequencer) : (s.setSeq x).cells = s.cells := rfl
@[simp] theorem setSeq_events (x : Sequencer) : (s.setSeq x).events = s.events := rfl
@[simp] theorem setSeq_requests (x : Sequencer) : (s.setSeq x).requests = s.requests := rfl
@[simp] theorem setSeq_handler (x : Sequencer) : (s.setSeq x).handler = s.handler := rfl
@[simp] theorem setSeq_root (x : Sequencer) : (s.setSeq x).root = s.root := rfl
@[simp] theorem setSeq_plan (x : Sequencer) : (s.setSeq x).plan = s.plan := rfl
@[simp] theorem setSeq_cursor (x : Sequencer) : (s.setSeq x).cursor = s.cursor := rfl
@[simp] theorem setSeq_clock (x : Sequencer) : (s.setSeq x).clock = s.clock := rfl
@[simp] theorem setSeq_pending (x : Sequencer) : (s.setSeq x).pending = s.pending := rfl
@[simp] theorem setSeq_self : s.setSeq s.seq = s := rfl
@[simp] theorem setSeq_setSeq (x y : Sequencer) : (s.setSeq x).setSeq y = s.setSeq y := rfl

/-! ### setTracks -/

@[simp] theorem setTracks_seq (x : Vector TrackRun 24) : (s.setTracks x).seq = s.seq := rfl
@[simp] theorem setTracks_tracks (x : Vector TrackRun 24) : (s.setTracks x).tracks = x := rfl
@[simp] theorem setTracks_lanes (x : Vector TrackRun 24) : (s.setTracks x).lanes = s.lanes := rfl
@[simp] theorem setTracks_cells (x : Vector TrackRun 24) : (s.setTracks x).cells = s.cells := rfl
@[simp] theorem setTracks_events (x : Vector TrackRun 24) : (s.setTracks x).events = s.events := rfl
@[simp] theorem setTracks_requests (x : Vector TrackRun 24) : (s.setTracks x).requests = s.requests := rfl
@[simp] theorem setTracks_handler (x : Vector TrackRun 24) : (s.setTracks x).handler = s.handler := rfl
@[simp] theorem setTracks_root (x : Vector TrackRun 24) : (s.setTracks x).root = s.root := rfl
@[simp] theorem setTracks_plan (x : Vector TrackRun 24) : (s.setTracks x).plan = s.plan := rfl
@[simp] theorem setTracks_cursor (x : Vector TrackRun 24) : (s.setTracks x).cursor = s.cursor := rfl
@[simp] theorem setTracks_clock (x : Vector TrackRun 24) : (s.setTracks x).clock = s.clock := rfl
@[simp] theorem setTracks_pending (x : Vector TrackRun 24) : (s.setTracks x).pending = s.pending := rfl
@[simp] theorem setTracks_self : s.setTracks s.tracks = s := rfl
@[simp] theorem setTracks_setTracks (x y : Vector TrackRun 24) : (s.setTracks x).setTracks y = s.setTracks y := rfl

/-! ### setLanes -/

@[simp] theorem setLanes_seq (x : Vector LaneRun 32) : (s.setLanes x).seq = s.seq := rfl
@[simp] theorem setLanes_tracks (x : Vector LaneRun 32) : (s.setLanes x).tracks = s.tracks := rfl
@[simp] theorem setLanes_lanes (x : Vector LaneRun 32) : (s.setLanes x).lanes = x := rfl
@[simp] theorem setLanes_cells (x : Vector LaneRun 32) : (s.setLanes x).cells = s.cells := rfl
@[simp] theorem setLanes_events (x : Vector LaneRun 32) : (s.setLanes x).events = s.events := rfl
@[simp] theorem setLanes_requests (x : Vector LaneRun 32) : (s.setLanes x).requests = s.requests := rfl
@[simp] theorem setLanes_handler (x : Vector LaneRun 32) : (s.setLanes x).handler = s.handler := rfl
@[simp] theorem setLanes_root (x : Vector LaneRun 32) : (s.setLanes x).root = s.root := rfl
@[simp] theorem setLanes_plan (x : Vector LaneRun 32) : (s.setLanes x).plan = s.plan := rfl
@[simp] theorem setLanes_cursor (x : Vector LaneRun 32) : (s.setLanes x).cursor = s.cursor := rfl
@[simp] theorem setLanes_clock (x : Vector LaneRun 32) : (s.setLanes x).clock = s.clock := rfl
@[simp] theorem setLanes_pending (x : Vector LaneRun 32) : (s.setLanes x).pending = s.pending := rfl
@[simp] theorem setLanes_self : s.setLanes s.lanes = s := rfl
@[simp] theorem setLanes_setLanes (x y : Vector LaneRun 32) : (s.setLanes x).setLanes y = s.setLanes y := rfl

/-! ### setCells -/

@[simp] theorem setCells_seq (x : Vector CellRun 16) : (s.setCells x).seq = s.seq := rfl
@[simp] theorem setCells_tracks (x : Vector CellRun 16) : (s.setCells x).tracks = s.tracks := rfl
@[simp] theorem setCells_lanes (x : Vector CellRun 16) : (s.setCells x).lanes = s.lanes := rfl
@[simp] theorem setCells_cells (x : Vector CellRun 16) : (s.setCells x).cells = x := rfl
@[simp] theorem setCells_events (x : Vector CellRun 16) : (s.setCells x).events = s.events := rfl
@[simp] theorem setCells_requests (x : Vector CellRun 16) : (s.setCells x).requests = s.requests := rfl
@[simp] theorem setCells_handler (x : Vector CellRun 16) : (s.setCells x).handler = s.handler := rfl
@[simp] theorem setCells_root (x : Vector CellRun 16) : (s.setCells x).root = s.root := rfl
@[simp] theorem setCells_plan (x : Vector CellRun 16) : (s.setCells x).plan = s.plan := rfl
@[simp] theorem setCells_cursor (x : Vector CellRun 16) : (s.setCells x).cursor = s.cursor := rfl
@[simp] theorem setCells_clock (x : Vector CellRun 16) : (s.setCells x).clock = s.clock := rfl
@[simp] theorem setCells_pending (x : Vector CellRun 16) : (s.setCells x).pending = s.pending := rfl
@[simp] theorem setCells_self : s.setCells s.cells = s := rfl
@[simp] theorem setCells_setCells (x y : Vector CellRun 16) : (s.setCells x).setCells y = s.setCells y := rfl

/-! ### setEvents -/

@[simp] theorem setEvents_seq (x : EventTable) : (s.setEvents x).seq = s.seq := rfl
@[simp] theorem setEvents_tracks (x : EventTable) : (s.setEvents x).tracks = s.tracks := rfl
@[simp] theorem setEvents_lanes (x : EventTable) : (s.setEvents x).lanes = s.lanes := rfl
@[simp] theorem setEvents_cells (x : EventTable) : (s.setEvents x).cells = s.cells := rfl
@[simp] theorem setEvents_events (x : EventTable) : (s.setEvents x).events = x := rfl
@[simp] theorem setEvents_requests (x : EventTable) : (s.setEvents x).requests = s.requests := rfl
@[simp] theorem setEvents_handler (x : EventTable) : (s.setEvents x).handler = s.handler := rfl
@[simp] theorem setEvents_root (x : EventTable) : (s.setEvents x).root = s.root := rfl
@[simp] theorem setEvents_plan (x : EventTable) : (s.setEvents x).plan = s.plan := rfl
@[simp] theorem setEvents_cursor (x : EventTable) : (s.setEvents x).cursor = s.cursor := rfl
@[simp] theorem setEvents_clock (x : EventTable) : (s.setEvents x).clock = s.clock := rfl
@[simp] theorem setEvents_pending (x : EventTable) : (s.setEvents x).pending = s.pending := rfl
@[simp] theorem setEvents_self : s.setEvents s.events = s := rfl
@[simp] theorem setEvents_setEvents (x y : EventTable) : (s.setEvents x).setEvents y = s.setEvents y := rfl

/-! ### setRequests -/

@[simp] theorem setRequests_seq (x : RequestUnit) : (s.setRequests x).seq = s.seq := rfl
@[simp] theorem setRequests_tracks (x : RequestUnit) : (s.setRequests x).tracks = s.tracks := rfl
@[simp] theorem setRequests_lanes (x : RequestUnit) : (s.setRequests x).lanes = s.lanes := rfl
@[simp] theorem setRequests_cells (x : RequestUnit) : (s.setRequests x).cells = s.cells := rfl
@[simp] theorem setRequests_events (x : RequestUnit) : (s.setRequests x).events = s.events := rfl
@[simp] theorem setRequests_requests (x : RequestUnit) : (s.setRequests x).requests = x := rfl
@[simp] theorem setRequests_handler (x : RequestUnit) : (s.setRequests x).handler = s.handler := rfl
@[simp] theorem setRequests_root (x : RequestUnit) : (s.setRequests x).root = s.root := rfl
@[simp] theorem setRequests_plan (x : RequestUnit) : (s.setRequests x).plan = s.plan := rfl
@[simp] theorem setRequests_cursor (x : RequestUnit) : (s.setRequests x).cursor = s.cursor := rfl
@[simp] theorem setRequests_clock (x : RequestUnit) : (s.setRequests x).clock = s.clock := rfl
@[simp] theorem setRequests_pending (x : RequestUnit) : (s.setRequests x).pending = s.pending := rfl
@[simp] theorem setRequests_self : s.setRequests s.requests = s := rfl
@[simp] theorem setRequests_setRequests (x y : RequestUnit) : (s.setRequests x).setRequests y = s.setRequests y := rfl

/-! ### setHandler -/

@[simp] theorem setHandler_seq (x : FrameHandler) : (s.setHandler x).seq = s.seq := rfl
@[simp] theorem setHandler_tracks (x : FrameHandler) : (s.setHandler x).tracks = s.tracks := rfl
@[simp] theorem setHandler_lanes (x : FrameHandler) : (s.setHandler x).lanes = s.lanes := rfl
@[simp] theorem setHandler_cells (x : FrameHandler) : (s.setHandler x).cells = s.cells := rfl
@[simp] theorem setHandler_events (x : FrameHandler) : (s.setHandler x).events = s.events := rfl
@[simp] theorem setHandler_requests (x : FrameHandler) : (s.setHandler x).requests = s.requests := rfl
@[simp] theorem setHandler_handler (x : FrameHandler) : (s.setHandler x).handler = x := rfl
@[simp] theorem setHandler_root (x : FrameHandler) : (s.setHandler x).root = s.root := rfl
@[simp] theorem setHandler_plan (x : FrameHandler) : (s.setHandler x).plan = s.plan := rfl
@[simp] theorem setHandler_cursor (x : FrameHandler) : (s.setHandler x).cursor = s.cursor := rfl
@[simp] theorem setHandler_clock (x : FrameHandler) : (s.setHandler x).clock = s.clock := rfl
@[simp] theorem setHandler_pending (x : FrameHandler) : (s.setHandler x).pending = s.pending := rfl
@[simp] theorem setHandler_self : s.setHandler s.handler = s := rfl
@[simp] theorem setHandler_setHandler (x y : FrameHandler) : (s.setHandler x).setHandler y = s.setHandler y := rfl

/-! ### setRoot -/

@[simp] theorem setRoot_seq (x : RootTimebase) : (s.setRoot x).seq = s.seq := rfl
@[simp] theorem setRoot_tracks (x : RootTimebase) : (s.setRoot x).tracks = s.tracks := rfl
@[simp] theorem setRoot_lanes (x : RootTimebase) : (s.setRoot x).lanes = s.lanes := rfl
@[simp] theorem setRoot_cells (x : RootTimebase) : (s.setRoot x).cells = s.cells := rfl
@[simp] theorem setRoot_events (x : RootTimebase) : (s.setRoot x).events = s.events := rfl
@[simp] theorem setRoot_requests (x : RootTimebase) : (s.setRoot x).requests = s.requests := rfl
@[simp] theorem setRoot_handler (x : RootTimebase) : (s.setRoot x).handler = s.handler := rfl
@[simp] theorem setRoot_root (x : RootTimebase) : (s.setRoot x).root = x := rfl
@[simp] theorem setRoot_plan (x : RootTimebase) : (s.setRoot x).plan = s.plan := rfl
@[simp] theorem setRoot_cursor (x : RootTimebase) : (s.setRoot x).cursor = s.cursor := rfl
@[simp] theorem setRoot_clock (x : RootTimebase) : (s.setRoot x).clock = s.clock := rfl
@[simp] theorem setRoot_pending (x : RootTimebase) : (s.setRoot x).pending = s.pending := rfl
@[simp] theorem setRoot_self : s.setRoot s.root = s := rfl
@[simp] theorem setRoot_setRoot (x y : RootTimebase) : (s.setRoot x).setRoot y = s.setRoot y := rfl

/-! ### setPlan -/

@[simp] theorem setPlan_seq (x : PlanStore) : (s.setPlan x).seq = s.seq := rfl
@[simp] theorem setPlan_tracks (x : PlanStore) : (s.setPlan x).tracks = s.tracks := rfl
@[simp] theorem setPlan_lanes (x : PlanStore) : (s.setPlan x).lanes = s.lanes := rfl
@[simp] theorem setPlan_cells (x : PlanStore) : (s.setPlan x).cells = s.cells := rfl
@[simp] theorem setPlan_events (x : PlanStore) : (s.setPlan x).events = s.events := rfl
@[simp] theorem setPlan_requests (x : PlanStore) : (s.setPlan x).requests = s.requests := rfl
@[simp] theorem setPlan_handler (x : PlanStore) : (s.setPlan x).handler = s.handler := rfl
@[simp] theorem setPlan_root (x : PlanStore) : (s.setPlan x).root = s.root := rfl
@[simp] theorem setPlan_plan (x : PlanStore) : (s.setPlan x).plan = x := rfl
@[simp] theorem setPlan_cursor (x : PlanStore) : (s.setPlan x).cursor = s.cursor := rfl
@[simp] theorem setPlan_clock (x : PlanStore) : (s.setPlan x).clock = s.clock := rfl
@[simp] theorem setPlan_pending (x : PlanStore) : (s.setPlan x).pending = s.pending := rfl
@[simp] theorem setPlan_self : s.setPlan s.plan = s := rfl
@[simp] theorem setPlan_setPlan (x y : PlanStore) : (s.setPlan x).setPlan y = s.setPlan y := rfl

/-! ### setCursor -/

@[simp] theorem setCursor_seq (x : Cursor) : (s.setCursor x).seq = s.seq := rfl
@[simp] theorem setCursor_tracks (x : Cursor) : (s.setCursor x).tracks = s.tracks := rfl
@[simp] theorem setCursor_lanes (x : Cursor) : (s.setCursor x).lanes = s.lanes := rfl
@[simp] theorem setCursor_cells (x : Cursor) : (s.setCursor x).cells = s.cells := rfl
@[simp] theorem setCursor_events (x : Cursor) : (s.setCursor x).events = s.events := rfl
@[simp] theorem setCursor_requests (x : Cursor) : (s.setCursor x).requests = s.requests := rfl
@[simp] theorem setCursor_handler (x : Cursor) : (s.setCursor x).handler = s.handler := rfl
@[simp] theorem setCursor_root (x : Cursor) : (s.setCursor x).root = s.root := rfl
@[simp] theorem setCursor_plan (x : Cursor) : (s.setCursor x).plan = s.plan := rfl
@[simp] theorem setCursor_cursor (x : Cursor) : (s.setCursor x).cursor = x := rfl
@[simp] theorem setCursor_clock (x : Cursor) : (s.setCursor x).clock = s.clock := rfl
@[simp] theorem setCursor_pending (x : Cursor) : (s.setCursor x).pending = s.pending := rfl
@[simp] theorem setCursor_self : s.setCursor s.cursor = s := rfl
@[simp] theorem setCursor_setCursor (x y : Cursor) : (s.setCursor x).setCursor y = s.setCursor y := rfl

/-! ### setClock -/

@[simp] theorem setClock_seq (x : Oscillators) : (s.setClock x).seq = s.seq := rfl
@[simp] theorem setClock_tracks (x : Oscillators) : (s.setClock x).tracks = s.tracks := rfl
@[simp] theorem setClock_lanes (x : Oscillators) : (s.setClock x).lanes = s.lanes := rfl
@[simp] theorem setClock_cells (x : Oscillators) : (s.setClock x).cells = s.cells := rfl
@[simp] theorem setClock_events (x : Oscillators) : (s.setClock x).events = s.events := rfl
@[simp] theorem setClock_requests (x : Oscillators) : (s.setClock x).requests = s.requests := rfl
@[simp] theorem setClock_handler (x : Oscillators) : (s.setClock x).handler = s.handler := rfl
@[simp] theorem setClock_root (x : Oscillators) : (s.setClock x).root = s.root := rfl
@[simp] theorem setClock_plan (x : Oscillators) : (s.setClock x).plan = s.plan := rfl
@[simp] theorem setClock_cursor (x : Oscillators) : (s.setClock x).cursor = s.cursor := rfl
@[simp] theorem setClock_clock (x : Oscillators) : (s.setClock x).clock = x := rfl
@[simp] theorem setClock_pending (x : Oscillators) : (s.setClock x).pending = s.pending := rfl
@[simp] theorem setClock_self : s.setClock s.clock = s := rfl
@[simp] theorem setClock_setClock (x y : Oscillators) : (s.setClock x).setClock y = s.setClock y := rfl

/-! ### setPending -/

@[simp] theorem setPending_seq (x : List Instr) : (s.setPending x).seq = s.seq := rfl
@[simp] theorem setPending_tracks (x : List Instr) : (s.setPending x).tracks = s.tracks := rfl
@[simp] theorem setPending_lanes (x : List Instr) : (s.setPending x).lanes = s.lanes := rfl
@[simp] theorem setPending_cells (x : List Instr) : (s.setPending x).cells = s.cells := rfl
@[simp] theorem setPending_events (x : List Instr) : (s.setPending x).events = s.events := rfl
@[simp] theorem setPending_requests (x : List Instr) : (s.setPending x).requests = s.requests := rfl
@[simp] theorem setPending_handler (x : List Instr) : (s.setPending x).handler = s.handler := rfl
@[simp] theorem setPending_root (x : List Instr) : (s.setPending x).root = s.root := rfl
@[simp] theorem setPending_plan (x : List Instr) : (s.setPending x).plan = s.plan := rfl
@[simp] theorem setPending_cursor (x : List Instr) : (s.setPending x).cursor = s.cursor := rfl
@[simp] theorem setPending_clock (x : List Instr) : (s.setPending x).clock = s.clock := rfl
@[simp] theorem setPending_pending (x : List Instr) : (s.setPending x).pending = x := rfl
@[simp] theorem setPending_self : s.setPending s.pending = s := rfl
@[simp] theorem setPending_setPending (x y : List Instr) : (s.setPending x).setPending y = s.setPending y := rfl

/-! ### Updates of one block that other names stand for -/

@[simp] theorem setReception_seq (r : Reception) : (s.setReception r).seq = s.seq := rfl
@[simp] theorem setReception_tracks (r : Reception) : (s.setReception r).tracks = s.tracks := rfl
@[simp] theorem setReception_lanes (r : Reception) : (s.setReception r).lanes = s.lanes := rfl
@[simp] theorem setReception_cells (r : Reception) : (s.setReception r).cells = s.cells := rfl
@[simp] theorem setReception_events (r : Reception) : (s.setReception r).events = s.events := rfl
@[simp] theorem setReception_requests (r : Reception) : (s.setReception r).requests = s.requests := rfl
@[simp] theorem setReception_root (r : Reception) : (s.setReception r).root = s.root := rfl
@[simp] theorem setReception_plan (r : Reception) : (s.setReception r).plan = s.plan := rfl
@[simp] theorem setReception_cursor (r : Reception) : (s.setReception r).cursor = s.cursor := rfl
@[simp] theorem setReception_clock (r : Reception) : (s.setReception r).clock = s.clock := rfl
@[simp] theorem setReception_pending (r : Reception) : (s.setReception r).pending = s.pending := rfl
@[simp] theorem hand_seq (frame : List Byte) : (s.hand frame).seq = s.seq := rfl
@[simp] theorem hand_tracks (frame : List Byte) : (s.hand frame).tracks = s.tracks := rfl
@[simp] theorem hand_lanes (frame : List Byte) : (s.hand frame).lanes = s.lanes := rfl
@[simp] theorem hand_cells (frame : List Byte) : (s.hand frame).cells = s.cells := rfl
@[simp] theorem hand_events (frame : List Byte) : (s.hand frame).events = s.events := rfl
@[simp] theorem hand_requests (frame : List Byte) : (s.hand frame).requests = s.requests := rfl
@[simp] theorem hand_root (frame : List Byte) : (s.hand frame).root = s.root := rfl
@[simp] theorem hand_plan (frame : List Byte) : (s.hand frame).plan = s.plan := rfl
@[simp] theorem hand_cursor (frame : List Byte) : (s.hand frame).cursor = s.cursor := rfl
@[simp] theorem hand_clock (frame : List Byte) : (s.hand frame).clock = s.clock := rfl
@[simp] theorem hand_pending (frame : List Byte) : (s.hand frame).pending = s.pending := rfl
@[simp] theorem raise_seq (source : Fin 36) (kind : Option Kind) (cause : Nat) : (s.raise source kind cause).seq = s.seq := rfl
@[simp] theorem raise_tracks (source : Fin 36) (kind : Option Kind) (cause : Nat) : (s.raise source kind cause).tracks = s.tracks := rfl
@[simp] theorem raise_lanes (source : Fin 36) (kind : Option Kind) (cause : Nat) : (s.raise source kind cause).lanes = s.lanes := rfl
@[simp] theorem raise_cells (source : Fin 36) (kind : Option Kind) (cause : Nat) : (s.raise source kind cause).cells = s.cells := rfl
@[simp] theorem raise_events (source : Fin 36) (kind : Option Kind) (cause : Nat) : (s.raise source kind cause).events = s.events := rfl
@[simp] theorem raise_handler (source : Fin 36) (kind : Option Kind) (cause : Nat) : (s.raise source kind cause).handler = s.handler := rfl
@[simp] theorem raise_root (source : Fin 36) (kind : Option Kind) (cause : Nat) : (s.raise source kind cause).root = s.root := rfl
@[simp] theorem raise_plan (source : Fin 36) (kind : Option Kind) (cause : Nat) : (s.raise source kind cause).plan = s.plan := rfl
@[simp] theorem raise_cursor (source : Fin 36) (kind : Option Kind) (cause : Nat) : (s.raise source kind cause).cursor = s.cursor := rfl
@[simp] theorem raise_clock (source : Fin 36) (kind : Option Kind) (cause : Nat) : (s.raise source kind cause).clock = s.clock := rfl
@[simp] theorem raise_pending (source : Fin 36) (kind : Option Kind) (cause : Nat) : (s.raise source kind cause).pending = s.pending := rfl
@[simp] theorem setReception_handler (r : Reception) : (s.setReception r).handler = { s.handler with reception := r } := rfl
@[simp] theorem hand_handler (frame : List Byte) : (s.hand frame).handler = s.handler.hand frame := rfl
@[simp] theorem raise_requests (source : Fin 36) (kind : Option Kind) (cause : Nat) :
    (s.raise source kind cause).requests = s.requests.raise source kind cause := rfl
@[simp] theorem beginReception_seq : s.beginReception.seq = s.seq := rfl
@[simp] theorem beginReception_tracks : s.beginReception.tracks = s.tracks := rfl
@[simp] theorem beginReception_lanes : s.beginReception.lanes = s.lanes := rfl
@[simp] theorem beginReception_cells : s.beginReception.cells = s.cells := rfl
@[simp] theorem beginReception_events : s.beginReception.events = s.events := rfl
@[simp] theorem beginReception_requests : s.beginReception.requests = s.requests := rfl
@[simp] theorem beginReception_root : s.beginReception.root = s.root := rfl
@[simp] theorem beginReception_plan : s.beginReception.plan = s.plan := rfl
@[simp] theorem beginReception_cursor : s.beginReception.cursor = s.cursor := rfl
@[simp] theorem beginReception_clock : s.beginReception.clock = s.clock := rfl
@[simp] theorem beginReception_pending : s.beginReception.pending = s.pending := rfl
@[simp] theorem beginReception_handler :
    s.beginReception.handler =
      { s.handler with reception := if s.handler.ringIn then .receiving else .missed, gapTimer := 0, arrived := [] } := rfl

end State

end Sys2Proof.Machine
end

