-- ==== Sys2Proof/Laws/Frames.lean ====
section
/-! SUPPORT. The frame of each shared operation: one lemma per operation, the fields of State it leaves as they are. -/

namespace Sys2Proof.Machine

/-! ### Plan -/

/-- `enterStranded` changes nothing but seq, root. -/
@[simp] theorem State.enterStranded_frame (s : State) :
    (s.enterStranded).tracks = s.tracks ∧ (s.enterStranded).lanes = s.lanes ∧ (s.enterStranded).cells = s.cells ∧
      (s.enterStranded).events = s.events ∧ (s.enterStranded).requests = s.requests ∧
      (s.enterStranded).handler = s.handler ∧ (s.enterStranded).plan = s.plan ∧ (s.enterStranded).cursor = s.cursor ∧
      (s.enterStranded).clock = s.clock ∧ (s.enterStranded).pending = s.pending := by
  unfold enterStranded; split <;> simp

/-- `raiseClamps` changes nothing but requests. -/
@[simp] theorem State.raiseClamps_frame (s : State) (n cause : Nat) :
    (s.raiseClamps n cause).seq = s.seq ∧ (s.raiseClamps n cause).tracks = s.tracks ∧
      (s.raiseClamps n cause).lanes = s.lanes ∧ (s.raiseClamps n cause).cells = s.cells ∧
      (s.raiseClamps n cause).events = s.events ∧ (s.raiseClamps n cause).handler = s.handler ∧
      (s.raiseClamps n cause).root = s.root ∧ (s.raiseClamps n cause).plan = s.plan ∧
      (s.raiseClamps n cause).cursor = s.cursor ∧ (s.raiseClamps n cause).clock = s.clock ∧
      (s.raiseClamps n cause).pending = s.pending := by
  unfold raiseClamps; split <;> simp

/-- `activate` changes nothing but plan, tracks, lanes, cells, requests. -/
@[simp] theorem State.activate_frame (s : State) (a : Activation) :
    (s.activate a).seq = s.seq ∧ (s.activate a).events = s.events ∧ (s.activate a).handler = s.handler ∧
      (s.activate a).root = s.root ∧ (s.activate a).cursor = s.cursor ∧ (s.activate a).clock = s.clock ∧
      (s.activate a).pending = s.pending := by
  simp [activate]

/-- `restartBlocks` changes nothing but tracks, lanes, cells. -/
@[simp] theorem State.restartBlocks_frame (s : State) :
    (s.restartBlocks).seq = s.seq ∧ (s.restartBlocks).events = s.events ∧ (s.restartBlocks).requests = s.requests ∧
      (s.restartBlocks).handler = s.handler ∧ (s.restartBlocks).root = s.root ∧ (s.restartBlocks).plan = s.plan ∧
      (s.restartBlocks).cursor = s.cursor ∧ (s.restartBlocks).clock = s.clock ∧ (s.restartBlocks).pending = s.pending := by
  simp [restartBlocks]

/-- `performOrigin` changes nothing but seq, plan, tracks, lanes, cells, events, requests. -/
@[simp] theorem State.performOrigin_frame (s : State) (n : Nat) :
    (s.performOrigin n).handler = s.handler ∧ (s.performOrigin n).root = s.root ∧
      (s.performOrigin n).cursor = s.cursor ∧ (s.performOrigin n).clock = s.clock ∧
      (s.performOrigin n).pending = s.pending := by
  simp [performOrigin]

/-- `resetBlocks` changes nothing but seq, tracks, lanes, cells, events, requests. -/
@[simp] theorem State.resetBlocks_frame (s : State) :
    (s.resetBlocks).handler = s.handler ∧ (s.resetBlocks).root = s.root ∧ (s.resetBlocks).plan = s.plan ∧
      (s.resetBlocks).cursor = s.cursor ∧ (s.resetBlocks).clock = s.clock ∧ (s.resetBlocks).pending = s.pending := by
  simp [resetBlocks]

/-- `activateLate` changes nothing but plan, tracks, lanes, cells, requests. -/
@[simp] theorem State.activateLate_frame (s : State) (a : Activation) :
    (s.activateLate a).seq = s.seq ∧ (s.activateLate a).events = s.events ∧ (s.activateLate a).handler = s.handler ∧
      (s.activateLate a).root = s.root ∧ (s.activateLate a).cursor = s.cursor ∧ (s.activateLate a).clock = s.clock ∧
      (s.activateLate a).pending = s.pending := by
  simp [activateLate]

/-- `activateAtOrigin` changes nothing but plan, tracks, lanes, cells, requests. -/
@[simp] theorem State.activateAtOrigin_frame (s : State) (a : Activation) :
    (s.activateAtOrigin a).seq = s.seq ∧ (s.activateAtOrigin a).events = s.events ∧
      (s.activateAtOrigin a).handler = s.handler ∧ (s.activateAtOrigin a).root = s.root ∧
      (s.activateAtOrigin a).cursor = s.cursor ∧ (s.activateAtOrigin a).clock = s.clock ∧
      (s.activateAtOrigin a).pending = s.pending := by
  simp [activateAtOrigin]

/-- `weighActivation` changes nothing but plan, tracks, lanes, cells, requests. -/
@[simp] theorem State.weighActivation_frame (s : State) (a : Activation) (o : Bool) :
    (s.weighActivation a o).seq = s.seq ∧ (s.weighActivation a o).events = s.events ∧
      (s.weighActivation a o).handler = s.handler ∧ (s.weighActivation a o).root = s.root ∧
      (s.weighActivation a o).cursor = s.cursor ∧ (s.weighActivation a o).clock = s.clock ∧
      (s.weighActivation a o).pending = s.pending := by
  unfold weighActivation; (repeat' split) <;> simp

/-- `readActivation` changes nothing but plan, tracks, lanes, cells, requests. -/
@[simp] theorem State.readActivation_frame (s : State) (f : BeatFields) (o : Bool) :
    (s.readActivation f o).seq = s.seq ∧ (s.readActivation f o).events = s.events ∧
      (s.readActivation f o).handler = s.handler ∧ (s.readActivation f o).root = s.root ∧
      (s.readActivation f o).cursor = s.cursor ∧ (s.readActivation f o).clock = s.clock ∧
      (s.readActivation f o).pending = s.pending := by
  unfold readActivation; split <;> simp

/-! ### Timebase -/

/-- `decideHalt` changes nothing but root, seq. -/
@[simp] theorem State.decideHalt_frame (s : State) (r : RequestRecord) :
    (s.decideHalt r).tracks = s.tracks ∧ (s.decideHalt r).lanes = s.lanes ∧ (s.decideHalt r).cells = s.cells ∧
      (s.decideHalt r).events = s.events ∧ (s.decideHalt r).requests = s.requests ∧
      (s.decideHalt r).handler = s.handler ∧ (s.decideHalt r).plan = s.plan ∧ (s.decideHalt r).cursor = s.cursor ∧
      (s.decideHalt r).clock = s.clock ∧ (s.decideHalt r).pending = s.pending := by
  simp [decideHalt]

/-- `escalate` changes nothing but root, seq. -/
@[simp] theorem State.escalate_frame (s : State) :
    (s.escalate).tracks = s.tracks ∧ (s.escalate).lanes = s.lanes ∧ (s.escalate).cells = s.cells ∧
      (s.escalate).events = s.events ∧ (s.escalate).requests = s.requests ∧ (s.escalate).handler = s.handler ∧
      (s.escalate).plan = s.plan ∧ (s.escalate).cursor = s.cursor ∧ (s.escalate).clock = s.clock ∧
      (s.escalate).pending = s.pending := by
  simp [escalate]

/-- `addSecondary` changes nothing but root, seq. -/
@[simp] theorem State.addSecondary_frame (s : State) (r : RequestRecord) :
    (s.addSecondary r).tracks = s.tracks ∧ (s.addSecondary r).lanes = s.lanes ∧ (s.addSecondary r).cells = s.cells ∧
      (s.addSecondary r).events = s.events ∧ (s.addSecondary r).requests = s.requests ∧
      (s.addSecondary r).handler = s.handler ∧ (s.addSecondary r).plan = s.plan ∧
      (s.addSecondary r).cursor = s.cursor ∧ (s.addSecondary r).clock = s.clock ∧
      (s.addSecondary r).pending = s.pending := by
  unfold addSecondary; simp only []; split <;> simp

/-- `addNotice` changes nothing but root. -/
@[simp] theorem State.addNotice_frame (s : State) (r : RequestRecord) (late : Bool) :
    (s.addNotice r late).seq = s.seq ∧ (s.addNotice r late).tracks = s.tracks ∧
      (s.addNotice r late).lanes = s.lanes ∧ (s.addNotice r late).cells = s.cells ∧
      (s.addNotice r late).events = s.events ∧ (s.addNotice r late).requests = s.requests ∧
      (s.addNotice r late).handler = s.handler ∧ (s.addNotice r late).plan = s.plan ∧
      (s.addNotice r late).cursor = s.cursor ∧ (s.addNotice r late).clock = s.clock ∧
      (s.addNotice r late).pending = s.pending := by
  simp [addNotice]

/-- `processRecord` changes nothing but root, seq. -/
@[simp] theorem State.processRecord_frame (s : State) (r : RequestRecord) :
    (s.processRecord r).tracks = s.tracks ∧ (s.processRecord r).lanes = s.lanes ∧
      (s.processRecord r).cells = s.cells ∧ (s.processRecord r).events = s.events ∧
      (s.processRecord r).requests = s.requests ∧ (s.processRecord r).handler = s.handler ∧
      (s.processRecord r).plan = s.plan ∧ (s.processRecord r).cursor = s.cursor ∧
      (s.processRecord r).clock = s.clock ∧ (s.processRecord r).pending = s.pending := by
  unfold processRecord; split <;> simp

/-- `takeOwnRequest` changes nothing but requests, root, seq. -/
@[simp] theorem State.takeOwnRequest_frame (s : State) :
    (s.takeOwnRequest).tracks = s.tracks ∧ (s.takeOwnRequest).lanes = s.lanes ∧ (s.takeOwnRequest).cells = s.cells ∧
      (s.takeOwnRequest).events = s.events ∧ (s.takeOwnRequest).handler = s.handler ∧
      (s.takeOwnRequest).plan = s.plan ∧ (s.takeOwnRequest).cursor = s.cursor ∧ (s.takeOwnRequest).clock = s.clock ∧
      (s.takeOwnRequest).pending = s.pending := by
  unfold takeOwnRequest; split <;> simp

/-- `raiseGrant` changes nothing but root, seq. -/
@[simp] theorem State.raiseGrant_frame (s : State) :
    (s.raiseGrant).tracks = s.tracks ∧ (s.raiseGrant).lanes = s.lanes ∧ (s.raiseGrant).cells = s.cells ∧
      (s.raiseGrant).events = s.events ∧ (s.raiseGrant).requests = s.requests ∧ (s.raiseGrant).handler = s.handler ∧
      (s.raiseGrant).plan = s.plan ∧ (s.raiseGrant).cursor = s.cursor ∧ (s.raiseGrant).clock = s.clock ∧
      (s.raiseGrant).pending = s.pending := by
  simp [raiseGrant]

/-- `testGrant` changes nothing but root, seq. -/
@[simp] theorem State.testGrant_frame (s : State) :
    (s.testGrant).tracks = s.tracks ∧ (s.testGrant).lanes = s.lanes ∧ (s.testGrant).cells = s.cells ∧
      (s.testGrant).events = s.events ∧ (s.testGrant).requests = s.requests ∧ (s.testGrant).handler = s.handler ∧
      (s.testGrant).plan = s.plan ∧ (s.testGrant).cursor = s.cursor ∧ (s.testGrant).clock = s.clock ∧
      (s.testGrant).pending = s.pending := by
  unfold testGrant; (repeat' split) <;> simp

/-- `sendBeat` changes nothing but root, handler. -/
@[simp] theorem State.sendBeat_frame (s : State) :
    (s.sendBeat).seq = s.seq ∧ (s.sendBeat).tracks = s.tracks ∧ (s.sendBeat).lanes = s.lanes ∧
      (s.sendBeat).cells = s.cells ∧ (s.sendBeat).events = s.events ∧ (s.sendBeat).requests = s.requests ∧
      (s.sendBeat).plan = s.plan ∧ (s.sendBeat).cursor = s.cursor ∧ (s.sendBeat).clock = s.clock ∧
      (s.sendBeat).pending = s.pending := by
  simp [sendBeat]

/-- `emit` changes nothing but requests, root, seq, handler. -/
@[simp] theorem State.emit_frame (s : State) :
    (s.emit).tracks = s.tracks ∧ (s.emit).lanes = s.lanes ∧ (s.emit).cells = s.cells ∧ (s.emit).events = s.events ∧
      (s.emit).plan = s.plan ∧ (s.emit).cursor = s.cursor ∧ (s.emit).clock = s.clock ∧ (s.emit).pending = s.pending := by
  unfold emit; simp only []; (repeat' split) <;> simp

/-- `emitOrDefer` changes nothing but requests, root, seq, handler. -/
@[simp] theorem State.emitOrDefer_frame (s : State) :
    (s.emitOrDefer).tracks = s.tracks ∧ (s.emitOrDefer).lanes = s.lanes ∧ (s.emitOrDefer).cells = s.cells ∧
      (s.emitOrDefer).events = s.events ∧ (s.emitOrDefer).plan = s.plan ∧ (s.emitOrDefer).cursor = s.cursor ∧
      (s.emitOrDefer).clock = s.clock ∧ (s.emitOrDefer).pending = s.pending := by
  unfold emitOrDefer; split <;> simp

/-- `emitDeferred` changes nothing but requests, root, seq, handler. -/
@[simp] theorem State.emitDeferred_frame (s : State) :
    (s.emitDeferred).tracks = s.tracks ∧ (s.emitDeferred).lanes = s.lanes ∧ (s.emitDeferred).cells = s.cells ∧
      (s.emitDeferred).events = s.events ∧ (s.emitDeferred).plan = s.plan ∧ (s.emitDeferred).cursor = s.cursor ∧
      (s.emitDeferred).clock = s.clock ∧ (s.emitDeferred).pending = s.pending := by
  unfold emitDeferred; split <;> simp

/-- `cadence` changes nothing but requests, root, seq, handler. -/
@[simp] theorem State.cadence_frame (s : State) (k : Nat) :
    (s.cadence k).tracks = s.tracks ∧ (s.cadence k).lanes = s.lanes ∧ (s.cadence k).cells = s.cells ∧
      (s.cadence k).events = s.events ∧ (s.cadence k).plan = s.plan ∧ (s.cadence k).cursor = s.cursor ∧
      (s.cadence k).clock = s.clock ∧ (s.cadence k).pending = s.pending := by
  unfold cadence; (repeat' split) <;> simp

/-- `measureRoundTrip` changes nothing but root. -/
@[simp] theorem State.measureRoundTrip_frame (s : State) (e : OutstandingBeat) :
    (s.measureRoundTrip e).seq = s.seq ∧ (s.measureRoundTrip e).tracks = s.tracks ∧
      (s.measureRoundTrip e).lanes = s.lanes ∧ (s.measureRoundTrip e).cells = s.cells ∧
      (s.measureRoundTrip e).events = s.events ∧ (s.measureRoundTrip e).requests = s.requests ∧
      (s.measureRoundTrip e).handler = s.handler ∧ (s.measureRoundTrip e).plan = s.plan ∧
      (s.measureRoundTrip e).cursor = s.cursor ∧ (s.measureRoundTrip e).clock = s.clock ∧
      (s.measureRoundTrip e).pending = s.pending := by
  unfold measureRoundTrip; split <;> simp

/-- The records of a frame, processed one after another, change nothing but the root timebase and the sequencer. -/
theorem foldl_slots_frame (l : List (Option RequestRecord)) : ∀ s : State,
    let t := l.foldl State.processSlot s
    t.tracks = s.tracks ∧ t.lanes = s.lanes ∧ t.cells = s.cells ∧ t.events = s.events ∧ t.requests = s.requests ∧
      t.handler = s.handler ∧ t.plan = s.plan ∧ t.cursor = s.cursor ∧ t.clock = s.clock ∧ t.pending = s.pending := by
  induction l with
  | nil => intro s; simp
  | cons slot rest ih =>
    intro s
    cases slot with
    | none => exact ih s
    | some r => have h := ih (s.processRecord r); simp only [State.processRecord_frame] at h; exact h

/-- `processSlots` changes nothing but root, seq. -/
@[simp] theorem State.processSlots_frame (s : State) (f : BeatFields) :
    (s.processSlots f).tracks = s.tracks ∧ (s.processSlots f).lanes = s.lanes ∧ (s.processSlots f).cells = s.cells ∧
      (s.processSlots f).events = s.events ∧ (s.processSlots f).requests = s.requests ∧
      (s.processSlots f).handler = s.handler ∧ (s.processSlots f).plan = s.plan ∧
      (s.processSlots f).cursor = s.cursor ∧ (s.processSlots f).clock = s.clock ∧
      (s.processSlots f).pending = s.pending := by
  unfold processSlots; exact foldl_slots_frame f.slots.toList s

/-- `takeUnsync` changes nothing but root, seq. -/
@[simp] theorem State.takeUnsync_frame (s : State) (f : BeatFields) :
    (s.takeUnsync f).tracks = s.tracks ∧ (s.takeUnsync f).lanes = s.lanes ∧ (s.takeUnsync f).cells = s.cells ∧
      (s.takeUnsync f).events = s.events ∧ (s.takeUnsync f).requests = s.requests ∧
      (s.takeUnsync f).handler = s.handler ∧ (s.takeUnsync f).plan = s.plan ∧ (s.takeUnsync f).cursor = s.cursor ∧
      (s.takeUnsync f).clock = s.clock ∧ (s.takeUnsync f).pending = s.pending := by
  unfold takeUnsync; simp only []; split <;> simp

/-- `confirm` changes nothing but root, seq. -/
@[simp] theorem State.confirm_frame (s : State) (f : BeatFields) (h : Bool) :
    (s.confirm f h).tracks = s.tracks ∧ (s.confirm f h).lanes = s.lanes ∧ (s.confirm f h).cells = s.cells ∧
      (s.confirm f h).events = s.events ∧ (s.confirm f h).requests = s.requests ∧
      (s.confirm f h).handler = s.handler ∧ (s.confirm f h).plan = s.plan ∧ (s.confirm f h).cursor = s.cursor ∧
      (s.confirm f h).clock = s.clock ∧ (s.confirm f h).pending = s.pending := by
  unfold confirm; (repeat' split) <;> simp

/-- `endOrigin` changes nothing but root. -/
@[simp] theorem State.endOrigin_frame (s : State) (e : OutstandingBeat) :
    (s.endOrigin e).seq = s.seq ∧ (s.endOrigin e).tracks = s.tracks ∧ (s.endOrigin e).lanes = s.lanes ∧
      (s.endOrigin e).cells = s.cells ∧ (s.endOrigin e).events = s.events ∧ (s.endOrigin e).requests = s.requests ∧
      (s.endOrigin e).handler = s.handler ∧ (s.endOrigin e).plan = s.plan ∧ (s.endOrigin e).cursor = s.cursor ∧
      (s.endOrigin e).clock = s.clock ∧ (s.endOrigin e).pending = s.pending := by
  simp [endOrigin]

/-- `completeActivation` changes nothing but plan. -/
@[simp] theorem State.completeActivation_frame (s : State) (f : BeatFields) (e : OutstandingBeat) :
    (s.completeActivation f e).seq = s.seq ∧ (s.completeActivation f e).tracks = s.tracks ∧
      (s.completeActivation f e).lanes = s.lanes ∧ (s.completeActivation f e).cells = s.cells ∧
      (s.completeActivation f e).events = s.events ∧ (s.completeActivation f e).requests = s.requests ∧
      (s.completeActivation f e).handler = s.handler ∧ (s.completeActivation f e).root = s.root ∧
      (s.completeActivation f e).cursor = s.cursor ∧ (s.completeActivation f e).clock = s.clock ∧
      (s.completeActivation f e).pending = s.pending := by
  unfold completeActivation; split <;> simp

/-- `processReturn` changes nothing but root, seq, plan. -/
@[simp] theorem State.processReturn_frame (s : State) (f : BeatFields) (e : OutstandingBeat) :
    (s.processReturn f e).tracks = s.tracks ∧ (s.processReturn f e).lanes = s.lanes ∧
      (s.processReturn f e).cells = s.cells ∧ (s.processReturn f e).events = s.events ∧
      (s.processReturn f e).requests = s.requests ∧ (s.processReturn f e).handler = s.handler ∧
      (s.processReturn f e).cursor = s.cursor ∧ (s.processReturn f e).clock = s.clock ∧
      (s.processReturn f e).pending = s.pending := by
  simp [processReturn]

/-- `ringLoss` changes nothing but root, seq. -/
@[simp] theorem State.ringLoss_frame (s : State) :
    (s.ringLoss).tracks = s.tracks ∧ (s.ringLoss).lanes = s.lanes ∧ (s.ringLoss).cells = s.cells ∧
      (s.ringLoss).events = s.events ∧ (s.ringLoss).requests = s.requests ∧ (s.ringLoss).handler = s.handler ∧
      (s.ringLoss).plan = s.plan ∧ (s.ringLoss).cursor = s.cursor ∧ (s.ringLoss).clock = s.clock ∧
      (s.ringLoss).pending = s.pending := by
  unfold ringLoss; split <;> simp

/-- `takeHead` changes nothing but root, seq, plan. -/
@[simp] theorem State.takeHead_frame (s : State) (f : BeatFields) :
    (s.takeHead f).tracks = s.tracks ∧ (s.takeHead f).lanes = s.lanes ∧ (s.takeHead f).cells = s.cells ∧
      (s.takeHead f).events = s.events ∧ (s.takeHead f).requests = s.requests ∧ (s.takeHead f).handler = s.handler ∧
      (s.takeHead f).cursor = s.cursor ∧ (s.takeHead f).clock = s.clock ∧ (s.takeHead f).pending = s.pending := by
  unfold takeHead; split <;> simp

/-- `takeBeat` changes nothing but root, seq, plan. -/
@[simp] theorem State.takeBeat_frame (s : State) (bytes : List Byte) :
    (s.takeBeat bytes).tracks = s.tracks ∧ (s.takeBeat bytes).lanes = s.lanes ∧ (s.takeBeat bytes).cells = s.cells ∧
      (s.takeBeat bytes).events = s.events ∧ (s.takeBeat bytes).requests = s.requests ∧
      (s.takeBeat bytes).handler = s.handler ∧ (s.takeBeat bytes).cursor = s.cursor ∧
      (s.takeBeat bytes).clock = s.clock ∧ (s.takeBeat bytes).pending = s.pending := by
  unfold takeBeat; simp only []; split <;> simp

/-- `returnTimedOut` changes nothing but root, seq. -/
@[simp] theorem State.returnTimedOut_frame (s : State) :
    (s.returnTimedOut).tracks = s.tracks ∧ (s.returnTimedOut).lanes = s.lanes ∧ (s.returnTimedOut).cells = s.cells ∧
      (s.returnTimedOut).events = s.events ∧ (s.returnTimedOut).requests = s.requests ∧
      (s.returnTimedOut).handler = s.handler ∧ (s.returnTimedOut).plan = s.plan ∧
      (s.returnTimedOut).cursor = s.cursor ∧ (s.returnTimedOut).clock = s.clock ∧
      (s.returnTimedOut).pending = s.pending := by
  unfold returnTimedOut; simp only []; split <;> simp

/-- `startRun` changes nothing but requests, root, seq, handler. -/
@[simp] theorem State.startRun_frame (s : State) (t : Option Nat) :
    (s.startRun t).tracks = s.tracks ∧ (s.startRun t).lanes = s.lanes ∧ (s.startRun t).cells = s.cells ∧
      (s.startRun t).events = s.events ∧ (s.startRun t).plan = s.plan ∧ (s.startRun t).cursor = s.cursor ∧
      (s.startRun t).clock = s.clock ∧ (s.startRun t).pending = s.pending := by
  simp [startRun]

/-- `loseEnumeration` changes nothing but handler. -/
@[simp] theorem State.loseEnumeration_frame (s : State) :
    (s.loseEnumeration).seq = s.seq ∧ (s.loseEnumeration).tracks = s.tracks ∧ (s.loseEnumeration).lanes = s.lanes ∧
      (s.loseEnumeration).cells = s.cells ∧ (s.loseEnumeration).events = s.events ∧
      (s.loseEnumeration).requests = s.requests ∧ (s.loseEnumeration).root = s.root ∧
      (s.loseEnumeration).plan = s.plan ∧ (s.loseEnumeration).cursor = s.cursor ∧
      (s.loseEnumeration).clock = s.clock ∧ (s.loseEnumeration).pending = s.pending := by
  simp [loseEnumeration]

/-- `expireOverdue` changes nothing but root, seq, handler. -/
@[simp] theorem State.expireOverdue_frame (s : State) :
    (s.expireOverdue).tracks = s.tracks ∧ (s.expireOverdue).lanes = s.lanes ∧ (s.expireOverdue).cells = s.cells ∧
      (s.expireOverdue).events = s.events ∧ (s.expireOverdue).requests = s.requests ∧
      (s.expireOverdue).plan = s.plan ∧ (s.expireOverdue).cursor = s.cursor ∧ (s.expireOverdue).clock = s.clock ∧
      (s.expireOverdue).pending = s.pending := by
  unfold expireOverdue; simp only []; (repeat' split) <;> simp

/-- `announceOrigin` changes nothing but seq, plan, tracks, lanes, cells, events, requests, root, handler. -/
@[simp] theorem State.announceOrigin_frame (s : State) :
    (s.announceOrigin).cursor = s.cursor ∧ (s.announceOrigin).clock = s.clock ∧ (s.announceOrigin).pending = s.pending := by
  unfold announceOrigin; simp only []; split <;> simp

/-- `resetPart` changes nothing but seq, plan, tracks, lanes, cells, events, requests, root, handler. -/
@[simp] theorem State.resetPart_frame (s : State) :
    (s.resetPart).cursor = s.cursor ∧ (s.resetPart).clock = s.clock ∧ (s.resetPart).pending = s.pending := by
  unfold resetPart; dsimp only; (repeat' split) <;> simp

/-! ### Sequencing -/

/-- `applyDue` changes nothing but plan, tracks, lanes, cells, requests. -/
@[simp] theorem State.applyDue_frame (s : State) (n : Nat) :
    (s.applyDue n).seq = s.seq ∧ (s.applyDue n).events = s.events ∧ (s.applyDue n).handler = s.handler ∧
      (s.applyDue n).root = s.root ∧ (s.applyDue n).cursor = s.cursor ∧ (s.applyDue n).clock = s.clock ∧
      (s.applyDue n).pending = s.pending := by
  unfold applyDue; (repeat' split) <;> simp

/-- `computeStep` changes nothing but seq, tracks, lanes, cells, events, requests. -/
@[simp] theorem State.computeStep_frame (s : State) (w : BitVec 16) (n : Nat) :
    (s.computeStep w n).handler = s.handler ∧ (s.computeStep w n).root = s.root ∧ (s.computeStep w n).plan = s.plan ∧
      (s.computeStep w n).cursor = s.cursor ∧ (s.computeStep w n).clock = s.clock ∧
      (s.computeStep w n).pending = s.pending := by
  simp [computeStep]

/-- `takeStep` changes nothing but seq, tracks, lanes, cells, events, requests, plan, root, handler. -/
@[simp] theorem State.takeStep_frame (s : State) (w : BitVec 16) :
    (s.takeStep w).cursor = s.cursor ∧ (s.takeStep w).clock = s.clock ∧ (s.takeStep w).pending = s.pending := by
  unfold takeStep; simp only []; split <;> simp

/-- `underrun` changes nothing but seq, requests. -/
@[simp] theorem State.underrun_frame (s : State) :
    (s.underrun).tracks = s.tracks ∧ (s.underrun).lanes = s.lanes ∧ (s.underrun).cells = s.cells ∧
      (s.underrun).events = s.events ∧ (s.underrun).handler = s.handler ∧ (s.underrun).root = s.root ∧
      (s.underrun).plan = s.plan ∧ (s.underrun).cursor = s.cursor ∧ (s.underrun).clock = s.clock ∧
      (s.underrun).pending = s.pending := by
  simp [underrun]

/-- `endHalting` changes nothing but seq. -/
@[simp] theorem State.endHalting_frame (s : State) :
    (s.endHalting).tracks = s.tracks ∧ (s.endHalting).lanes = s.lanes ∧ (s.endHalting).cells = s.cells ∧
      (s.endHalting).events = s.events ∧ (s.endHalting).requests = s.requests ∧ (s.endHalting).handler = s.handler ∧
      (s.endHalting).root = s.root ∧ (s.endHalting).plan = s.plan ∧ (s.endHalting).cursor = s.cursor ∧
      (s.endHalting).clock = s.clock ∧ (s.endHalting).pending = s.pending := by
  unfold endHalting; split <;> simp

/-- `actOnStrobe` changes nothing but seq, tracks, lanes, cells, events, requests, plan, root, handler. -/
@[simp] theorem State.actOnStrobe_frame (s : State) (w : BitVec 16) :
    (s.actOnStrobe w).cursor = s.cursor ∧ (s.actOnStrobe w).clock = s.clock ∧ (s.actOnStrobe w).pending = s.pending := by
  unfold actOnStrobe; (repeat' split) <;> simp

/-- `strobe` changes nothing but seq, tracks, lanes, cells, events, requests, plan, root, handler. -/
@[simp] theorem State.strobe_frame (s : State) (w : BitVec 16) (o : StrobeOrder) :
    (s.strobe w o).cursor = s.cursor ∧ (s.strobe w o).clock = s.clock ∧ (s.strobe w o).pending = s.pending := by
  cases o <;> simp [strobe]

/-- `readBeatFields` changes nothing but seq, plan, tracks, lanes, cells, events, requests. -/
@[simp] theorem State.readBeatFields_frame (s : State) (f : BeatFields) :
    (s.readBeatFields f).handler = s.handler ∧ (s.readBeatFields f).root = s.root ∧
      (s.readBeatFields f).cursor = s.cursor ∧ (s.readBeatFields f).clock = s.clock ∧
      (s.readBeatFields f).pending = s.pending := by
  unfold readBeatFields; simp only []; split <;> simp

/-- `passBeat` changes nothing but seq, plan, tracks, lanes, cells, events, requests, handler. -/
@[simp] theorem State.passBeat_frame (s : State) (bytes : List Byte) :
    (s.passBeat bytes).root = s.root ∧ (s.passBeat bytes).cursor = s.cursor ∧ (s.passBeat bytes).clock = s.clock ∧
      (s.passBeat bytes).pending = s.pending := by
  unfold passBeat placeRequest; simp only []; (repeat' split) <;> simp

/-! ### Arrivals -/

/-- `discardFailed` changes nothing but handler, requests. -/
@[simp] theorem State.discardFailed_frame (s : State) :
    (s.discardFailed).seq = s.seq ∧ (s.discardFailed).tracks = s.tracks ∧ (s.discardFailed).lanes = s.lanes ∧
      (s.discardFailed).cells = s.cells ∧ (s.discardFailed).events = s.events ∧ (s.discardFailed).root = s.root ∧
      (s.discardFailed).plan = s.plan ∧ (s.discardFailed).cursor = s.cursor ∧ (s.discardFailed).clock = s.clock ∧
      (s.discardFailed).pending = s.pending := by
  simp [discardFailed]

/-- `discardUnknown` changes nothing but handler. -/
@[simp] theorem State.discardUnknown_frame (s : State) :
    (s.discardUnknown).seq = s.seq ∧ (s.discardUnknown).tracks = s.tracks ∧ (s.discardUnknown).lanes = s.lanes ∧
      (s.discardUnknown).cells = s.cells ∧ (s.discardUnknown).events = s.events ∧
      (s.discardUnknown).requests = s.requests ∧ (s.discardUnknown).root = s.root ∧
      (s.discardUnknown).plan = s.plan ∧ (s.discardUnknown).cursor = s.cursor ∧ (s.discardUnknown).clock = s.clock ∧
      (s.discardUnknown).pending = s.pending := by
  simp [discardUnknown]

/-- `takePosition` changes nothing but seq, handler. -/
@[simp] theorem State.takePosition_frame (s : State) (f : EnumFrame) :
    (s.takePosition f).tracks = s.tracks ∧ (s.takePosition f).lanes = s.lanes ∧ (s.takePosition f).cells = s.cells ∧
      (s.takePosition f).events = s.events ∧ (s.takePosition f).requests = s.requests ∧
      (s.takePosition f).root = s.root ∧ (s.takePosition f).plan = s.plan ∧ (s.takePosition f).cursor = s.cursor ∧
      (s.takePosition f).clock = s.clock ∧ (s.takePosition f).pending = s.pending := by
  unfold takePosition; split <;> simp

/-- `endEnumeration` changes nothing but handler. -/
@[simp] theorem State.endEnumeration_frame (s : State) (f : EnumFrame) :
    (s.endEnumeration f).seq = s.seq ∧ (s.endEnumeration f).tracks = s.tracks ∧
      (s.endEnumeration f).lanes = s.lanes ∧ (s.endEnumeration f).cells = s.cells ∧
      (s.endEnumeration f).events = s.events ∧ (s.endEnumeration f).requests = s.requests ∧
      (s.endEnumeration f).root = s.root ∧ (s.endEnumeration f).plan = s.plan ∧
      (s.endEnumeration f).cursor = s.cursor ∧ (s.endEnumeration f).clock = s.clock ∧
      (s.endEnumeration f).pending = s.pending := by
  unfold endEnumeration; split <;> simp

/-- `takeEnum` changes nothing but seq, handler. -/
@[simp] theorem State.takeEnum_frame (s : State) (f : EnumFrame) :
    (s.takeEnum f).tracks = s.tracks ∧ (s.takeEnum f).lanes = s.lanes ∧ (s.takeEnum f).cells = s.cells ∧
      (s.takeEnum f).events = s.events ∧ (s.takeEnum f).requests = s.requests ∧ (s.takeEnum f).root = s.root ∧
      (s.takeEnum f).plan = s.plan ∧ (s.takeEnum f).cursor = s.cursor ∧ (s.takeEnum f).clock = s.clock ∧
      (s.takeEnum f).pending = s.pending := by
  unfold takeEnum; split <;> simp

/-- `dispatchBeat` changes nothing but seq, plan, tracks, lanes, cells, events, requests, handler, root. -/
@[simp] theorem State.dispatchBeat_frame (s : State) (bytes : List Byte) :
    (s.dispatchBeat bytes).cursor = s.cursor ∧ (s.dispatchBeat bytes).clock = s.clock ∧
      (s.dispatchBeat bytes).pending = s.pending := by
  unfold dispatchBeat; split <;> simp

end Sys2Proof.Machine
end

