-- ==== Sys2Proof/Laws/Service.lean ====
section
/-! SUPPORT. The service engine and the arrivals: what each leaves as it is, and the arrival of a frame that a part takes
alone. -/

namespace Sys2Proof.Machine

/-! ### The service engine -/

/-- A write to a table changes at most the staged bank, the event table and the request unit. -/
theorem State.writeField_frame (s after : State) (t : TableName) (index field v : Nat)
    (h : s.writeField t index field v = some after) :
    after.seq = s.seq ∧ after.handler = s.handler ∧ after.root = s.root ∧ after.cursor = s.cursor ∧ after.clock = s.clock ∧
      after.pending = s.pending ∧ after.tracks = s.tracks ∧ after.lanes = s.lanes ∧ after.cells = s.cells := by
  unfold writeField at h
  (repeat' split at h) <;>
    first
    | contradiction
    | (simp only [Option.map_eq_some_iff] at h; obtain ⟨x, -, rfl⟩ := h; simp [setStaged])

/-- READ changes nothing. -/
@[simp] theorem State.readAt_state (s : State) (t : TableName) (index field : Nat) : (s.readAt t index field).state = s := by
  unfold readAt refuse accept; (repeat' split) <;> rfl

/-- WRITE leaves the clocks and the queue of commands. -/
@[simp] theorem State.writeAt_frame (s : State) (t : TableName) (index field v : Nat) :
    (s.writeAt t index field v).state.clock = s.clock ∧ (s.writeAt t index field v).state.pending = s.pending := by
  unfold writeAt refuse accept
  (repeat' split) <;> first
    | exact ⟨rfl, rfl⟩
    | (rename_i h; have := State.writeField_frame _ _ _ _ _ _ h; simp [this])

/-- A bit command leaves the clocks and the queue of commands. -/
@[simp] theorem State.bitsAt_frame (s : State) (t : TableName) (index field v : Nat)
    (change : Vector Bool 8 → Nat → Vector Bool 8) (reply : Vector Bool 8 → Nat) :
    (s.bitsAt t index field v change reply).state.clock = s.clock ∧
      (s.bitsAt t index field v change reply).state.pending = s.pending := by
  unfold bitsAt refuse accept setBitLevels setStaged; (repeat' split) <;> exact ⟨rfl, rfl⟩

/-- A command on the frame's table leaves the clocks and the queue if the command does. -/
theorem State.onTable_frame (s : State) (f : ServiceFrame) (act : TableName → Answer)
    (h : ∀ t, (act t).state.clock = s.clock ∧ (act t).state.pending = s.pending) :
    (s.onTable f act).state.clock = s.clock ∧ (s.onTable f act).state.pending = s.pending := by
  unfold onTable; split
  · exact ⟨rfl, rfl⟩
  · exact h _

/-- A command at the cursor leaves the clocks and the queue if the command does. -/
theorem State.atCursor_frame (s : State) (f : ServiceFrame) (act : TableName → Nat → Answer)
    (h : ∀ t n, (act t n).state.clock = s.clock ∧ (act t n).state.pending = s.pending) :
    (s.atCursor f act).state.clock = s.clock ∧ (s.atCursor f act).state.pending = s.pending := by
  unfold atCursor Answer.advancing; simp only []; (repeat' split)
  · exact ⟨rfl, rfl⟩
  · simpa using h _ _
  · exact h _ _

/-- A command's own effect leaves the clocks and the queue of commands. -/
theorem State.perform_frame (s : State) (c : CommandName) (f : ServiceFrame) :
    (s.perform c f).state.clock = s.clock ∧ (s.perform c f).state.pending = s.pending := by
  cases c <;> simp only [perform]
  case read => exact s.onTable_frame f _ fun _ => by simp
  case write => exact s.onTable_frame f _ fun _ => by simp
  case cursor => exact s.onTable_frame f _ fun _ => by split <;> exact ⟨rfl, rfl⟩
  case readNext => exact s.atCursor_frame f _ fun _ _ => by simp
  case writeNext => exact s.atCursor_frame f _ fun _ _ => by simp
  case setBits => exact s.onTable_frame f _ fun _ => by simp
  case clearBits => exact s.onTable_frame f _ fun _ => by simp
  case testSet => exact s.onTable_frame f _ fun _ => by simp
  case copyLive => unfold serveCopyLive; split <;> exact ⟨rfl, rfl⟩
  case takeNotice => unfold serveTakeNotice; split <;> exact ⟨rfl, rfl⟩
  case resetPart => simp [serveResetPart, accept]
  case run => unfold serveRun tryRun; (repeat' split) <;> simp [refuse, accept]
  case runFor => unfold serveRunFor tryRun; simp only []; (repeat' split) <;> simp [refuse, accept]
  case pause => unfold servePause; (repeat' split) <;> simp [refuse, accept]
  case clearBreak => unfold serveClearBreak; (repeat' split) <;> simp [refuse, accept, State.clearBreak]
  case origin => unfold serveOrigin; (repeat' split) <;> simp [refuse, accept]
  case swap => unfold serveSwap; (repeat' split) <;> simp [refuse, accept]
  case enumerate => unfold serveEnumerate; (repeat' split) <;> simp [refuse, accept]

/-- The taking of a service frame leaves the clocks and the queue of commands. -/
@[simp] theorem State.answer_frame (s : State) (code : BitVec 8) (f : ServiceFrame) :
    (s.answer code f).state.clock = s.clock ∧ (s.answer code f).state.pending = s.pending := by
  unfold answer; (repeat' split) <;> first | exact ⟨rfl, rfl⟩ | exact s.perform_frame _ f

/-- A service frame at the part leaves the clocks and the queue of commands. -/
@[simp] theorem State.takeService_frame (s : State) (code : BitVec 8) (f : ServiceFrame) :
    (s.takeService code f).clock = s.clock ∧ (s.takeService code f).pending = s.pending := by
  unfold takeService; split <;> simp

/-! ### Arrivals -/

/-- The end of a frame leaves the clocks and the queue if what the part does with it does. -/
theorem State.onArrival_frame (s : State) (act : State → State)
    (h : ∀ t, (act t).clock = t.clock ∧ (act t).pending = t.pending) :
    (s.onArrival act).clock = s.clock ∧ (s.onArrival act).pending = s.pending := by
  unfold onArrival; split
  · simpa [setReception] using h (s.setReception .between)
  · simp [setReception]

/-- The arrival of a service frame leaves the clocks and the queue of commands. -/
@[simp] theorem State.serviceArrives_frame (s : State) (code : BitVec 8) (f : ServiceFrame) :
    (s.serviceArrives code f).clock = s.clock ∧ (s.serviceArrives code f).pending = s.pending :=
  s.onArrival_frame _ fun _ => by simp

/-- A completed frame leaves the clocks and the queue of commands. -/
@[simp] theorem State.takeFrame_frame (s : State) (bytes : List Byte) :
    (s.takeFrame bytes).clock = s.clock ∧ (s.takeFrame bytes).pending = s.pending := by
  unfold takeFrame dispatch; simp only []; (repeat' split) <;> simp

/-- A frame given as bytes leaves the clocks and the queue of commands. -/
@[simp] theorem State.frameArrives_frame (s : State) (bytes : List Byte) :
    (s.frameArrives bytes).clock = s.clock ∧ (s.frameArrives bytes).pending = s.pending :=
  s.onArrival_frame _ fun _ => by simp

/-- A frame completed early leaves the clocks and the queue of commands. -/
@[simp] theorem State.frameCompletedEarly_frame (s : State) (bytes : List Byte) :
    (s.frameCompletedEarly bytes).clock = s.clock ∧ (s.frameCompletedEarly bytes).pending = s.pending := by
  unfold frameCompletedEarly setReception; split <;> simp

/-! ### A frame that a part takes alone -/

/-- A frame addressed to this part alone finds it. -/
theorem State.TakesAlone.addressed {s : State} {f : ServiceFrame} (h : s.TakesAlone f) : s.received.addressed f = true := by
  obtain ⟨-, -, h⟩ := h
  simp only [State.addressed, State.received, State.setReception, State.setHandler_handler]
  cases hp : s.handler.position <;> simp_all

/-- What the part does with a frame it takes alone (R163): the answer's state, and the frame handed on with the reply in it. -/
theorem State.TakesAlone.serviceArrives {s : State} {f : ServiceFrame} (h : s.TakesAlone f) (code : BitVec 8) :
    s.serviceArrives code f =
      (s.received.answer code f).state.sent code ((s.received.answer code f).replyTo f) := by
  have ha : (s.setReception .between).addressed f = true := h.addressed
  simp only [State.serviceArrives, State.onArrival, h.1, if_true, State.takeService, Answer.written, State.sent, State.received,
    if_pos ha, if_neg h.2.1]

/-- The outcome of an assigned command at a part that may execute it is the command's own. -/
theorem State.answer_eq_perform (s : State) (f : ServiceFrame) (c : CommandName) (hd : f.destination ≠ 63)
    (hr : s.seq.role = .root ∨ s.needsRoot c f = false) : s.answer c.code f = s.perform c f := by
  have hc : CommandName.ofCode c.code.toNat = some c := by cases c <;> rfl
  unfold State.answer
  rw [hc]
  rcases hr with h | h <;> simp [h, show ¬ f.destination = 63#6 from hd]

end Sys2Proof.Machine
end

