-- ==== Sys2Proof/Laws/Reception.lean ====
section
/-! SUPPORT. Reception: what a microsecond does at ring-in, that the taking of a frame neither reads nor writes what ring-in is receiving,
and that it leaves the link state of ring-in. -/

namespace Sys2Proof.Machine

/-! ### A microsecond at ring-in (R176) -/

/-- With a frame in reception the bytes join it up to the 62nd, and the gap is measured from the last of them. -/
theorem FrameHandler.bytesTicked_receiving {h : FrameHandler} (hr : h.inReception = true) (bytes : List Byte) :
    h.bytesTicked bytes =
      { h with arrived := (h.arrived ++ bytes).take 62, gapTimer := if bytes = [] then h.gapTimer + 1 else 0 } := by
  simp [bytesTicked, hr]

/-- With no frame in reception nothing is received. -/
theorem FrameHandler.bytesTicked_idle {h : FrameHandler} (hr : h.inReception = false) (bytes : List Byte) :
    h.bytesTicked bytes = h := by
  simp [bytesTicked, hr]

/-- A microsecond neither begins nor ends a reception. -/
@[simp] theorem FrameHandler.bytesTicked_inReception (h : FrameHandler) (bytes : List Byte) :
    (h.bytesTicked bytes).inReception = h.inReception := by
  cases hr : h.inReception
  · rw [bytesTicked_idle hr, hr]
  · rw [bytesTicked_receiving hr]; exact hr

/-- An event is queued exactly if it has come due. -/
theorem mem_dueIf {due : Bool} {event c : Instr} : c ∈ dueIf due event ↔ due = true ∧ c = event := by
  unfold dueIf; split <;> simp_all

/-- A frame handed to ring-out leaves the link state of ring-in. -/
@[simp] theorem FrameHandler.hand_ringIn (h : FrameHandler) (frame : List Byte) : (h.hand frame).ringIn = h.ringIn := by
  unfold FrameHandler.hand; (repeat' split) <;> rfl

/-- The outcome of a command with another reception. -/
def Answer.setReception (a : Answer) (r : Reception) : Answer := { a with state := a.state.setReception r }

namespace State

variable (s : State) (r : Reception)

/-! ### Setting the reception passes through every operation of a frame's taking -/

@[simp] theorem setSeq_setReception (x : Sequencer) : (s.setReception r).setSeq x = (s.setSeq x).setReception r := rfl
@[simp] theorem setRoot_setReception (x : RootTimebase) : (s.setReception r).setRoot x = (s.setRoot x).setReception r := rfl
@[simp] theorem setRequests_setReception (x : RequestUnit) : (s.setReception r).setRequests x = (s.setRequests x).setReception r := rfl
@[simp] theorem setPlan_setReception (x : PlanStore) : (s.setReception r).setPlan x = (s.setPlan x).setReception r := rfl
@[simp] theorem setEvents_setReception (x : EventTable) : (s.setReception r).setEvents x = (s.setEvents x).setReception r := rfl
@[simp] theorem setTracks_setReception (x) : (s.setReception r).setTracks x = (s.setTracks x).setReception r := rfl
@[simp] theorem setLanes_setReception (x) : (s.setReception r).setLanes x = (s.setLanes x).setReception r := rfl
@[simp] theorem setCells_setReception (x) : (s.setReception r).setCells x = (s.setCells x).setReception r := rfl
@[simp] theorem setCursor_setReception (x) : (s.setReception r).setCursor x = (s.setCursor x).setReception r := rfl

@[simp] theorem raise_setReception (i k c) : (s.setReception r).raise i k c = (s.raise i k c).setReception r := rfl
@[simp] theorem hand_setReception (f) : (s.setReception r).hand f = (s.hand f).setReception r := by
  unfold hand FrameHandler.hand setReception setHandler
  simp only []
  (repeat' split) <;> rfl

@[simp] theorem enterStranded_setReception : (s.setReception r).enterStranded = s.enterStranded.setReception r := by
  cases h : s.seq.role <;> simp [enterStranded, h]

@[simp] theorem restartBlocks_setReception : (s.setReception r).restartBlocks = s.restartBlocks.setReception r := rfl
@[simp] theorem raiseClamps_setReception (n c) : (s.setReception r).raiseClamps n c = (s.raiseClamps n c).setReception r := by
  unfold raiseClamps; split <;> simp_all

@[simp] theorem performOrigin_setReception (n) : (s.setReception r).performOrigin n = (s.performOrigin n).setReception r := by
  simp [performOrigin]

@[simp] theorem resetBlocks_setReception : (s.setReception r).resetBlocks = s.resetBlocks.setReception r := rfl
@[simp] theorem activate_setReception (a) : (s.setReception r).activate a = (s.activate a).setReception r := by
  simp [activate]

@[simp] theorem activateLate_setReception (a) : (s.setReception r).activateLate a = (s.activateLate a).setReception r := by
  simp [activateLate]

@[simp] theorem activateAtOrigin_setReception (a) : (s.setReception r).activateAtOrigin a = (s.activateAtOrigin a).setReception r := by
  simp [activateAtOrigin]

@[simp] theorem weighActivation_setReception (a o) : (s.setReception r).weighActivation a o = (s.weighActivation a o).setReception r := by
  unfold weighActivation; simp only [setReception_seq]; (repeat' split) <;> simp_all

@[simp] theorem readActivation_setReception (f o) : (s.setReception r).readActivation f o = (s.readActivation f o).setReception r := by
  unfold readActivation; simp only [setReception_plan]; (repeat' split) <;> simp_all

@[simp] theorem readBeatFields_setReception (f) : (s.setReception r).readBeatFields f = (s.readBeatFields f).setReception r := by
  unfold readBeatFields; simp only [setReception_seq, setReception_clock, setReception_plan, setSeq_setReception]; (repeat' split) <;>
    simp_all

@[simp] theorem placeRequest_setReception (b) :
    (s.setReception r).placeRequest b = ((s.placeRequest b).1.setReception r, (s.placeRequest b).2) := by
  rcases h1 : s.handler.position with _ | x <;> cases h2 : firstEmptySlot b <;>
    rcases h3 : s.requests.best with _ | ⟨i, p⟩ <;> simp [placeRequest, h1, h2, h3]
  by_cases h : s.seq.runState.numbered = true <;> by_cases h' : carriesPosition b x.val = false <;> simp [h, h']

@[simp] theorem passBeat_setReception (b) : (s.setReception r).passBeat b = (s.passBeat b).setReception r := by
  simp [passBeat]

@[simp] theorem decideHalt_setReception (p) : (s.setReception r).decideHalt p = (s.decideHalt p).setReception r := rfl
@[simp] theorem addSecondary_setReception (p) : (s.setReception r).addSecondary p = (s.addSecondary p).setReception r := by
  by_cases h : p.kind = .brk ∧ s.seq.haltKind = .pause <;> simp [addSecondary, escalate, h]
  rfl

@[simp] theorem addNotice_setReception (p l) : (s.setReception r).addNotice p l = (s.addNotice p l).setReception r := rfl
@[simp] theorem processRecord_setReception (p) : (s.setReception r).processRecord p = (s.processRecord p).setReception r := by
  unfold processRecord; simp only [setReception_seq]; (repeat' split) <;> simp_all

@[simp] theorem takeOwnRequest_setReception : (s.setReception r).takeOwnRequest = s.takeOwnRequest.setReception r := by
  unfold takeOwnRequest; simp only [setReception_requests]; (repeat' split) <;> simp_all

@[simp] theorem raiseGrant_setReception : (s.setReception r).raiseGrant = s.raiseGrant.setReception r := rfl
@[simp] theorem testGrant_setReception : (s.setReception r).testGrant = s.testGrant.setReception r := by
  by_cases h : s.root.target = some s.root.rootGrant
  · simp [testGrant, h]
  by_cases h' : s.root.rootGrant = maxStep
  · rw [h'] at h; simp [testGrant, h, h']
  · simp [testGrant, h, h']

@[simp] theorem sendBeat_setReception : (s.setReception r).sendBeat = s.sendBeat.setReception r := by
  have : (s.setReception r).composeBeat = s.composeBeat := rfl
  have h2 : ∀ f, (s.setReception r).listEntry f = s.listEntry f := fun _ => rfl
  simp [sendBeat, this, h2]

@[simp] theorem emit_setReception : (s.setReception r).emit = s.emit.setReception r := by
  unfold emit; simp only [takeOwnRequest_setReception, setReception_seq]; (repeat' split) <;> simp_all

@[simp] theorem emitOrDefer_setReception : (s.setReception r).emitOrDefer = s.emitOrDefer.setReception r := by
  unfold emitOrDefer; simp only [setReception_root]; (repeat' split) <;> simp_all

@[simp] theorem measureRoundTrip_setReception (e) : (s.setReception r).measureRoundTrip e = (s.measureRoundTrip e).setReception r := by
  cases h : e.numberingCurrent <;> simp [measureRoundTrip, h]
  rfl

@[simp] theorem processSlot_setReception (e) : (s.setReception r).processSlot e = (s.processSlot e).setReception r := by
  unfold processSlot; split <;> simp_all

theorem foldl_processSlot (l : List (Option RequestRecord)) :
    ∀ s : State, l.foldl processSlot (s.setReception r) = (l.foldl processSlot s).setReception r := by
  induction l with
  | nil => simp
  | cons x l ih => intro s; simp [ih]

@[simp] theorem processSlots_setReception (f) :
    (s.setReception r).processSlots f = (s.processSlots f).setReception r := foldl_processSlot r _ s

@[simp] theorem takeUnsync_setReception (f) : (s.setReception r).takeUnsync f = (s.takeUnsync f).setReception r := by
  by_cases h : s.seq.runState = .run <;> cases h' : f.unsync <;> simp [takeUnsync, h, h']

@[simp] theorem confirm_setReception (f c) : (s.setReception r).confirm f c = (s.confirm f c).setReception r := by
  by_cases h : s.seq.runState = .halting <;> cases c <;> cases hu : f.unsync <;> cases hr : f.reached <;> simp [confirm, *]

@[simp] theorem endOrigin_setReception (e) : (s.setReception r).endOrigin e = (s.endOrigin e).setReception r := rfl
@[simp] theorem completeActivation_setReception (f e) :
    (s.setReception r).completeActivation f e = (s.completeActivation f e).setReception r := by
  cases h : s.plan.completes f e <;> simp [completeActivation, h]

@[simp] theorem processReturn_setReception (f e) : (s.setReception r).processReturn f e = (s.processReturn f e).setReception r := by
  simp [processReturn]

@[simp] theorem ringLoss_setReception : (s.setReception r).ringLoss = s.ringLoss.setReception r := by
  by_cases h : s.seq.runState = .idle <;> simp [ringLoss, h]

@[simp] theorem takeHead_setReception (f) : (s.setReception r).takeHead f = (s.takeHead f).setReception r := by
  unfold takeHead; simp only [setReception_root]; split <;> simp_all

@[simp] theorem takeBeat_setReception (b) : (s.setReception r).takeBeat b = (s.takeBeat b).setReception r := by
  unfold takeBeat; simp only [setReception_root]; split <;> simp_all

@[simp] theorem returnTimedOut_setReception : (s.setReception r).returnTimedOut = s.returnTimedOut.setReception r := by
  unfold returnTimedOut; simp only [setReception_seq, setReception_root, setRoot_setReception, setSeq_setReception]; split <;> simp_all

@[simp] theorem expireOverdue_setReception : (s.setReception r).expireOverdue = s.expireOverdue.setReception r := by
  have h1 : (s.setReception r).returnOverdue = s.returnOverdue := rfl
  have h2 : ∀ s : State, (s.setReception r).enumerationOverdue = s.enumerationOverdue := fun _ => rfl
  have h3 : ∀ s : State, (s.setReception r).loseEnumeration = s.loseEnumeration.setReception r := fun _ => rfl
  unfold expireOverdue; simp only [h1]; (repeat' split) <;> simp_all

@[simp] theorem startRun_setReception (t) : (s.setReception r).startRun t = (s.startRun t).setReception r := by
  simp [startRun]

@[simp] theorem tryRun_setReception (t n) : (s.setReception r).tryRun t n = (s.tryRun t n).setReception r := by
  have : (s.setReception r).runRefusal = s.runRefusal := rfl
  cases h : s.runRefusal <;> simp [tryRun, this, h] <;> rfl

@[simp] theorem announceOrigin_setReception : (s.setReception r).announceOrigin = s.announceOrigin.setReception r := by
  unfold announceOrigin; simp only [setReception_root, setReception_plan, performOrigin_setReception]; split <;> simp_all

@[simp] theorem resetPart_setReception : (s.setReception r).resetPart = s.resetPart.setReception r := by
  unfold resetPart; simp only [setReception_seq]; (repeat' split) <;> simp_all

@[simp] theorem writeField_setReception (t : TableName) (index field v : Nat) :
    (s.setReception r).writeField t index field v = (s.writeField t index field v).map fun u => u.setReception r := by
  unfold writeField
  cases t <;> simp only [setReception_plan, setReception_events, setReception_requests] <;> try rfl
  all_goals (try split) <;> simp [setStaged, Function.comp_def]

@[simp] theorem readAt_setReception (t index field) :
    (s.setReception r).readAt t index field = (s.readAt t index field).setReception r := by
  have : (s.setReception r).fieldValue t index field = s.fieldValue t index field := by cases t <;> rfl
  unfold readAt; simp only [setReception_root, this]; (repeat' split) <;> rfl

@[simp] theorem writeAt_setReception (t index field v) :
    (s.setReception r).writeAt t index field v = (s.writeAt t index field v).setReception r := by
  have : (s.setReception r).stagingLocked = s.stagingLocked := rfl
  unfold writeAt; simp only [this, writeField_setReception]
  cases s.writeField t index field v <;> simp only [Option.map] <;> (repeat' split) <;> rfl

@[simp] theorem bitsAt_setReception (t index field v c q) :
    (s.setReception r).bitsAt t index field v c q = (s.bitsAt t index field v c q).setReception r := by
  have : (s.setReception r).stagingLocked = s.stagingLocked := rfl
  have h2 : (s.setReception r).bitLevels t index = s.bitLevels t index := by cases t <;> rfl
  have h3 : ∀ l, (s.setReception r).setBitLevels t index l = (s.setBitLevels t index l).setReception r := by
    intro l; unfold setBitLevels; cases t <;> simp only [setReception_plan] <;> try rfl
    split <;> rfl
  unfold bitsAt; simp only [this, h2, h3]
  (repeat' split) <;> rfl

@[simp] theorem takePosition_setReception (f) : (s.setReception r).takePosition f = (s.takePosition f).setReception r := by
  unfold takePosition hand FrameHandler.hand setReception setHandler setSeq
  simp only []; (repeat' split) <;> rfl

@[simp] theorem endEnumeration_setReception (f) : (s.setReception r).endEnumeration f = (s.endEnumeration f).setReception r := by
  cases h : s.handler.enumerationOutstanding <;> simp [endEnumeration, discardUnknown, h] <;> rfl

@[simp] theorem takeEnum_setReception (f) : (s.setReception r).takeEnum f = (s.takeEnum f).setReception r := by
  cases h : s.seq.role <;> simp [takeEnum, h]

theorem onTable_setReception (f) (act act' : TableName → Answer) (h : ∀ t, act' t = (act t).setReception r) :
    (s.setReception r).onTable f act' = (s.onTable f act).setReception r := by
  unfold onTable; split
  · rfl
  · exact h _

theorem atCursor_setReception (f) (act act' : TableName → Nat → Answer) (h : ∀ t n, act' t n = (act t n).setReception r) :
    (s.setReception r).atCursor f act' = (s.atCursor f act).setReception r := by
  unfold atCursor Answer.advancing; simp only [setReception_cursor, h]
  split
  · rfl
  · split <;> simp_all [Answer.setReception]

theorem perform_setReception (c) (f) : (s.setReception r).perform c f = (s.perform c f).setReception r := by
  cases c <;> simp only [perform]
  case read => exact s.onTable_setReception r f _ _ fun _ => by simp
  case write => exact s.onTable_setReception r f _ _ fun _ => by simp
  case cursor => exact s.onTable_setReception r f _ _ fun _ => by split <;> rfl
  case readNext => exact s.atCursor_setReception r f _ _ fun _ _ => by simp
  case writeNext => exact s.atCursor_setReception r f _ _ fun _ _ => by simp
  case setBits => exact s.onTable_setReception r f _ _ fun _ => by simp
  case clearBits => exact s.onTable_setReception r f _ _ fun _ => by simp
  case testSet => exact s.onTable_setReception r f _ _ fun _ => by simp
  case copyLive =>
    cases h : s.plan.pendingActivation <;> simp [serveCopyLive, stagingLocked, refuse, accept, Answer.setReception, setStaged, h]
  case takeNotice =>
    cases h : s.root.notices <;> simp [serveTakeNotice, refuse, accept, Answer.setReception, h]
  case resetPart => simp [serveResetPart, accept, Answer.setReception]
  case pause => cases h : s.seq.runState <;> simp [servePause, refuse, accept, Answer.setReception, h]
  case clearBreak => cases h : s.seq.runState <;> simp [serveClearBreak, clearBreak, refuse, accept, Answer.setReception, h]
  case origin =>
    cases h : s.seq.runState <;> cases h' : s.root.originOutstanding <;> simp [serveOrigin, refuse, accept, Answer.setReception, h, h']
  case run =>
    cases h : s.seq.runState <;> simp [serveRun, h] <;> rfl
  case runFor =>
    by_cases h0 : f.value.toNat = 0
    · simp [serveRunFor, h0]; rfl
    · cases h : s.seq.runState <;> simp [serveRunFor, h0, h] <;> rfl
  case swap =>
    by_cases h : s.seq.runState.numbered = true <;> by_cases h' : s.plan.announced.isSome = true <;>
      by_cases h'' : s.root.rootGrant = maxStep <;> simp [serveSwap, h, h', h''] <;> rfl
  case enumerate =>
    cases h : s.seq.runState <;> by_cases h' : s.handler.enumerationOutstanding = true <;> simp [serveEnumerate, h, h'] <;> rfl

@[simp] theorem answer_setReception (c f) : (s.setReception r).answer c f = (s.answer c f).setReception r := by
  have : ∀ n, (s.setReception r).needsRoot n f = s.needsRoot n f := fun n => by cases n <;> rfl
  unfold answer; split
  · rfl
  · rename_i n _
    simp only [setReception_seq, this, perform_setReception]; (repeat' split) <;> rfl

@[simp] theorem takeService_setReception (c f) : (s.setReception r).takeService c f = (s.takeService c f).setReception r := by
  have : (s.setReception r).addressed f = s.addressed f := rfl
  have h2 : ∀ a : Answer, (a.setReception r).written f = a.written f := fun _ => rfl
  have h3 : ∀ a : Answer, (a.setReception r).state = a.state.setReception r := fun _ => rfl
  cases h : s.addressed f <;> simp [takeService, this, h, h2, h3]

@[simp] theorem discardFailed_setReception : (s.setReception r).discardFailed = s.discardFailed.setReception r := rfl
@[simp] theorem discardUnknown_setReception : (s.setReception r).discardUnknown = s.discardUnknown.setReception r := rfl
@[simp] theorem dispatchBeat_setReception (b) : (s.setReception r).dispatchBeat b = (s.dispatchBeat b).setReception r := by
  cases h : s.seq.role <;> simp [dispatchBeat, h]

@[simp] theorem takeFrame_setReception (b) : (s.setReception r).takeFrame b = (s.takeFrame b).setReception r := by
  unfold takeFrame dispatch; simp only []; (repeat' split) <;> simp

/-! ### The taking of a frame leaves the link state of ring-in (R110) -/

@[simp] theorem emit_ringIn : s.emit.handler.ringIn = s.handler.ringIn := by
  unfold emit sendBeat; simp only []; (repeat' split) <;> simp

@[simp] theorem emitOrDefer_ringIn : s.emitOrDefer.handler.ringIn = s.handler.ringIn := by
  unfold emitOrDefer; split <;> simp

@[simp] theorem expireOverdue_ringIn : s.expireOverdue.handler.ringIn = s.handler.ringIn := by
  unfold expireOverdue loseEnumeration; simp only []; (repeat' split) <;> simp

@[simp] theorem announceOrigin_ringIn : s.announceOrigin.handler.ringIn = s.handler.ringIn := by
  unfold announceOrigin; simp only []; (repeat' split) <;> simp

@[simp] theorem resetPart_ringIn : s.resetPart.handler.ringIn = s.handler.ringIn := by
  unfold resetPart; (repeat' split) <;> simp

@[simp] theorem writeAt_ringIn (t index field v) : (s.writeAt t index field v).state.handler.ringIn = s.handler.ringIn := by
  unfold writeAt refuse accept
  (repeat' split) <;> first
    | rfl
    | (rename_i h; have := State.writeField_frame _ _ _ _ _ _ h; simp [this])

@[simp] theorem bitsAt_ringIn (t index field v c r) : (s.bitsAt t index field v c r).state.handler.ringIn = s.handler.ringIn := by
  unfold bitsAt refuse accept setBitLevels setStaged; (repeat' split) <;> rfl

theorem onTable_ringIn (f : ServiceFrame) (act : TableName → Answer) (h : ∀ t, (act t).state.handler.ringIn = s.handler.ringIn) :
    (s.onTable f act).state.handler.ringIn = s.handler.ringIn := by
  unfold onTable; split
  · rfl
  · exact h _

theorem atCursor_ringIn (f : ServiceFrame) (act : TableName → Nat → Answer)
    (h : ∀ t n, (act t n).state.handler.ringIn = s.handler.ringIn) : (s.atCursor f act).state.handler.ringIn = s.handler.ringIn := by
  unfold atCursor Answer.advancing; simp only []; (repeat' split)
  · rfl
  · simpa using h _ _
  · exact h _ _

theorem perform_ringIn (c) (f : ServiceFrame) : (s.perform c f).state.handler.ringIn = s.handler.ringIn := by
  cases c <;> simp only [perform]
  case read => exact s.onTable_ringIn f _ fun _ => by simp
  case write => exact s.onTable_ringIn f _ fun _ => by simp
  case cursor => exact s.onTable_ringIn f _ fun _ => by split <;> rfl
  case readNext => exact s.atCursor_ringIn f _ fun _ _ => by simp
  case writeNext => exact s.atCursor_ringIn f _ fun _ _ => by simp
  case setBits => exact s.onTable_ringIn f _ fun _ => by simp
  case clearBits => exact s.onTable_ringIn f _ fun _ => by simp
  case testSet => exact s.onTable_ringIn f _ fun _ => by simp
  case copyLive => unfold serveCopyLive; split <;> rfl
  case takeNotice => unfold serveTakeNotice; split <;> rfl
  case resetPart => simp [serveResetPart, accept]
  case run => unfold serveRun tryRun startRun; (repeat' split) <;> simp [refuse, accept]
  case runFor => unfold serveRunFor tryRun startRun; simp only []; (repeat' split) <;> simp [refuse, accept]
  case pause => unfold servePause; (repeat' split) <;> simp [refuse, accept]
  case clearBreak => unfold serveClearBreak; (repeat' split) <;> simp [refuse, accept, State.clearBreak]
  case origin => unfold serveOrigin; (repeat' split) <;> simp [refuse, accept]
  case swap => unfold serveSwap; (repeat' split) <;> simp [refuse, accept]
  case enumerate => unfold serveEnumerate; (repeat' split) <;> simp [refuse, accept]

@[simp] theorem placeRequest_handler (b) : (s.placeRequest b).1.handler = s.handler := by
  unfold placeRequest; (repeat' split) <;> rfl

theorem takeFrame_ringIn (b) : (s.takeFrame b).handler.ringIn = s.handler.ringIn := by
  unfold takeFrame dispatch dispatchBeat takeService answer takeEnum takePosition endEnumeration passBeat discardFailed discardUnknown
  simp only []
  (repeat' split) <;> simp [refuse, perform_ringIn]

end State

end Sys2Proof.Machine
end

