-- ==== Sys2Proof/Tests/Slice0.lean ====
section
/-! SUPPORT. Small tests, their expected values taken from the worked sequences and tables of spec/, and for every statement with
hypotheses a witness: concrete states and operands that meet them. -/

namespace Sys2Proof.Tests

open Sys2Proof Sys2Proof.Machine

/-! ### Parts to test on -/

/-- A part in role `role` and state `state`, its ports ON and its reference present, synchronised to origin 0. -/
def part (role : Role) (state : RunState) (position : Option (Fin 63)) : State :=
  let s := State.reset
  let s := s.setSeq { s.seq with runState := state, role, originNumber := some 0, referencePresent := true }
  s.setHandler { s.handler with ringIn := true, ringOut := true, position }

/-- A follower at position 5. -/
def follower (state : RunState) : State := part .follower state (some 5)

/-- A root. -/
def rootPart (state : RunState) : State := part .root state (some 0)

/-- The part with C and G at these values; at the root G_root too. -/
def counted (s : State) (step grant : Nat) : State :=
  (s.setSeq { s.seq with step, grant }).setRoot { s.root with rootGrant := if s.seq.role = .root then grant else 0 }

/-- The part with a halt at `f`, of this kind. -/
def halted (s : State) (f : Nat) (kind : HaltKind) : State := s.setSeq { s.seq with haltStep := some f, haltKind := kind }

/-- The part with one pending request. -/
def waiting (s : State) (source : Fin 36) (p : PendingRequest) : State :=
  s.setRequests { s.requests with waiting := s.requests.waiting.set source (some p) }

/-- The part with a live header that gives K and Ld. -/
def paced (s : State) (spacing lead : Nat) : State :=
  s.setPlan { s.plan with live := { s.plan.live with header := { s.plan.live.header with spacing, lead } } }

/-- The state after a command. -/
def after (c : Instr) (s : State) : State :=
  match exec c s with
  | .next t => t
  | .fault _ => s
  | .refused _ => s

/-- A service frame as the controller sends it. -/
def frameTo (destination : BitVec 6) : ServiceFrame :=
  { tag := 1, reserved := 0, destination, table := 0, index := 0, field := 0, offset := 0, value := 0, status := 0xFF
    replyValue := 0 }

/-- The status and reply value of the service frame the part is sending. -/
def reply (s : State) : Option (BitVec 8 × BitVec 32) :=
  s.handler.sending.map fun bytes => ((readService bytes).status, (readService bytes).replyValue)

/-- A beat frame of a root at C = G = `grant` without requests. -/
def beat (mode : BeatMode) (grant haltStep : Nat) : BeatFields :=
  { sequence := 29, mode, haltKind := .brk, originFlag := false, activateFlag := false, reached := false, unsync := false
    originNumber := 0, stage := 0, activationStep := 0, grant, haltStep, slots := Vector.replicate 4 none }

/-- An entry of the outstanding beat list. -/
def listed (sequence grant rootStep : Nat) (haltCurrent : Bool) : OutstandingBeat :=
  { sequence, grant, rootStep, emissionTime := 0, haltCurrent, originCurrent := false, numberingCurrent := true }

/-- The part at this monitor time. -/
def atTime (s : State) (time : Nat) : State := s.setClock { s.clock with time }

/-- The part with a frame in reception. -/
def inFrame (s : State) : State := s.setReception .receiving

/-- The part with an activation of stage 1 pending at a step. -/
def pendingAt (s : State) (step : Nat) : State := s.setPlan { s.plan with pendingActivation := some { stage := 1, step } }

/-- The part with these outstanding beats. -/
def awaiting (s : State) (outstanding : List OutstandingBeat) : State := s.setRoot { s.root with outstanding }

/-! ### Well-formedness -/

theorem test_wellFormed_refuses_long_frame : (Instr.beatFrameAtRoot (List.replicate 62 0)).wellFormed = false := by decide
theorem test_wellFormed_refuses_long_beat : (Instr.beatFrameAtFollower (List.replicate 62 0)).wellFormed = false := by decide
theorem test_wellFormed_refuses_long_gap_frame : (Instr.frameGapTimeout (List.replicate 62 0)).wellFormed = false := by decide
theorem test_wellFormed_refuses_long_cut_frame : (Instr.startMarkCut (List.replicate 62 0)).wellFormed = false := by decide
theorem test_wellFormed_refuses_short_overlength : (Instr.frameOverlength (List.replicate 61 0)).wellFormed = false := by
  decide
theorem test_wellFormed_refuses_assigned_code : (Instr.unassignedCommand 0x16 (frameTo 0)).wellFormed = false := by decide
theorem test_wellFormed_refuses_source_write : (Instr.write { frameTo 0 with table := 9 }).wellFormed = false := by decide
theorem test_wellFormed_refuses_limit_write :
    (Instr.write { frameTo 0 with table := 8, field := 10 }).wellFormed = false := by decide
theorem test_wellFormed_refuses_limit_elsewhere : (Instr.eventLimitWrite (frameTo 0)).wellFormed = false := by decide
theorem test_wellFormed_refuses_source_elsewhere : (Instr.sourceWrite (frameTo 0)).wellFormed = false := by decide
theorem test_wellFormed_refuses_gate_elsewhere : (Instr.gateWrite (frameTo 0)).wellFormed = false := by decide
theorem test_wellFormed_refuses_mask_elsewhere : (Instr.maskWrite (frameTo 0)).wellFormed = false := by decide
theorem test_wellFormed_refuses_broadcast_pass : (Instr.serviceFramePass 1 (frameTo 63)).wellFormed = false := by decide

/-! ### Resets and the reference (R7, R8, R9, R23) -/

theorem test_powerOn : (after .powerOn (rootPart .run)).seq.settleTimer = 2048 := by decide
theorem test_pinReset :
    let t := after .pinReset (rootPart .run)
    t.seq.settleTimer = 128 ∧ t.seq.resetCause = .pin ∧ t.seq.runState = .cold ∧ t.handler.position = none := by decide

/-- A part in COLD whose settle timer counts. -/
def settling : State := State.reset.setSeq { State.reset.seq with referencePresent := true }

theorem test_settleTimerExpiry_root :
    let t := after (.settleTimerExpiry true) settling
    t.seq.role = .root ∧ t.handler.position = some 0 ∧ t.seq.watchdog = .stopped := by decide
theorem test_settleTimerExpiry_follower :
    let t := after (.settleTimerExpiry false) settling
    t.seq.role = .follower ∧ t.handler.position = none ∧ t.seq.watchdog = .running 0 1000 := by decide
theorem test_referenceLoss_strands :
    let t := after .referenceLoss (follower .run)
    t.seq.runState = .stranded ∧ t.seq.referenceLossCount = 1 ∧ t.seq.referenceLost = true := by decide
theorem test_referenceReturn_keeps_the_latch :
    let t := after .referenceReturn (after .referenceLoss (follower .ready))
    t.seq.referencePresent = true ∧ t.seq.referenceLost = true ∧ t.seq.runState = .ready := by decide

/-! ### Strobes: the worked sequences of 2.10, 2.11, 3.8 -/

/-- A follower in RUN below its grant, with track 0 of 2.10 as it stands, track 1 following it and lane 4 showing it. -/
def onTracks (step : Nat) (track0 track1 : TrackRun) : State :=
  let s := counted (follower .run) step 8
  let live := s.plan.live
  let free : TrackRecord := { TrackRecord.default with mode := .free, increment := 3, high := 4, low := 4 }
  let follows : TrackRecord := { TrackRecord.default with mode := .follow, parent := 0 }
  let shows : LaneRecord := { source := .track 0, invert := false, retard := 0 }
  (s.setPlan { s.plan with
    live := { live with tracks := (live.tracks.set 0 free).set 1 follows, lanes := live.lanes.set 4 shows } }).setTracks
    ((s.tracks.set 0 track0).set 1 track1)

/-- 2.10, 3.8, step 2: track 0 rises with φ 3 → 6 → 2, track 1 advances with it, and lane 4 is high. -/
theorem test_paceStrobe_track_rises :
    let t := after (.paceStrobe 0 .stepFirst) (onTracks 1 { TrackRun.default with phase := 3 } TrackRun.default)
    t.seq.step = 2 ∧ t.tracks[0] = { TrackRun.default with phase := 2, level := true, edges := 1, lastEdge := .rise } ∧
      t.tracks[1] = { TrackRun.default with phase := 0, level := true, edges := 1, lastEdge := .rise } ∧
      (t.lanes[4]).output = true := by decide

/-- 2.10, step 3: track 0 falls with φ 2 → 5 → 1, and track 1 stays. -/
theorem test_paceStrobe_track_falls :
    let t := after (.paceStrobe 0 .stepFirst)
      (onTracks 2 { TrackRun.default with phase := 2, level := true, edges := 1 }
        { TrackRun.default with level := true, edges := 1, lastEdge := .rise })
    t.tracks[0] = { TrackRun.default with phase := 1, level := false, edges := 1, lastEdge := .fall } ∧
      t.tracks[1] = { TrackRun.default with level := true, edges := 1, lastEdge := .noChange } := by decide

/-- Track 2 of 2.11 with a gate style, as it stands after step 6, walked with flag 3 read as 0. -/
def walkedClosed (style : GateStyle) : TrackRun :=
  let record : TrackRecord :=
    { TrackRecord.default with mode := .free, high := 2, low := 2, gateSource := .flag 3, gateStyle := style }
  (walkTracks (Vector.replicate 24 record) (Vector.replicate 8 false) (Vector.replicate 16 CellRun.default)
    (Vector.replicate 24 { TrackRun.default with level := true, edges := 2 }))[2]

/-- 2.11, step 7: CLEAN runs its high phase out with close-pending set, HARD is held. -/
theorem test_clean_gate_runs_out :
    walkedClosed .clean = { phase := 1, level := true, edges := 2, lastEdge := .noChange, closePending := true } := by decide
theorem test_hard_gate_holds :
    walkedClosed .hard = { phase := 0, level := true, edges := 2, lastEdge := .noChange, closePending := false } := by decide

/-- 3.8, step 4: lane 5 shows the complement of step 2's value 1. -/
theorem test_lane_retard :
    ({ source := .track 0, invert := true, retard := 2 } : LaneRecord).outputOf
      ([false, true, false, true].foldl recordValue (Vector.replicate 16 false)) = false := by decide

/-! ### Cells: the worked sequence of 4.10 -/

/-- A cell of 4.10. -/
def cellOf (mode : CellMode) (edge : CellEdge) (length : Nat) : CellConfig := { CellConfig.default with mode, edge, length }

theorem test_filter_step_4 : (cellOf .filter .rise 2).timed 1 false true true = (0, true) := by decide
theorem test_stretch_step_4 : (cellOf .stretch .rise 3).timed 3 true true true = (0, false) := by decide
theorem test_count_step_6 : (cellOf .count .both 2).timed 1 false true false = (0, true) := by decide
theorem test_settle_step_5 : (cellOf .settle .rise 2).timed 1 false true true = (0, true) := by decide
theorem test_rate_step_3 : (cellOf .rate .rise 3).timed 2 false false true = (3, true) := by decide
theorem test_rate_step_6 : (cellOf .rate .rise 3).timed 1 true true false = (0, false) := by decide

/-! ### Events: the worked sequence of 5.8 -/

/-- Entry 2 of 5.8 with these hits, remaining and value. -/
def entry2 (hits remaining value : Nat) : EventEntry :=
  { EventEntry.default with
    enabled := true, value, period := 3, limit := 3, gateOp := .set, gateFlag := 1, marker := some 0
    requestKind := some .mark, requestWhen := .last, remaining, hits }

/-- Entry 7 of 5.8. -/
def entry7 : EventEntry :=
  { EventEntry.default with enabled := true, value := 7, gateOp := .clear, gateFlag := 1, marker := some 0 }

/-- The event table of 5.8 before step 7, its flag 1 set. -/
def table7 : EventTable :=
  { entries := (EventTable.default.entries.set 2 (entry2 1 2 7)).set 7 entry7
    gates := EventTable.default.gates.set 1 true, markers := EventTable.default.markers }

/-- The tracks and cells of a part after power-on. -/
def stillTracks : Vector TrackRun 24 := Vector.replicate 24 TrackRun.default
def stillCells : Vector CellRun 16 := Vector.replicate 16 CellRun.default

/-- 5.8, step 10: the third match of entry 2. -/
theorem test_entry_exhausted :
    (entry2 2 1 10).stepped 10 stillTracks stillCells = { entry2 3 0 13 with done := true } := by decide

/-- 5.8, step 7: entry 7 decides flag 1, and both hold marker 0 high. -/
theorem test_flag_of_highest_entry :
    let t := table7.stepped 7 stillTracks stillCells
    t.gates[1] = false ∧ t.markers[0] = true ∧ (t.entries[7]).done = true ∧ (t.entries[2]).value = 10 := by decide

/-! ### Requests: the worked sequence of 6.8 -/

/-- The follower of 6.8 at C = G = 203, with the level of source 32 as given there. -/
def follower203 : State :=
  let s := counted (follower .run) 203 203
  s.setRequests { s.requests with
    settings := (s.requests.settings.set 32 { enable := true, level := 2 }).set 12 { enable := true, level := 0 }
    underrunKind := some .pause }

/-- 6.8, event 2: the underrun. -/
theorem test_paceStrobe_underrun :
    let t := after (.paceStrobe 0 .emissionFirst) follower203
    t.requests.waiting[32] = some { kind := .pause, level := 2, causeStep := 204, merged := 0 } ∧ t.seq.underrunCount = 1 ∧
      t.seq.step = 203 := by decide

/-- 6.8, event 4: a merge keeps the cause step. -/
theorem test_raise_merges :
    (((follower203.requests.raise 5 (some .brk) 203).raise 5 (some .brk) 204).waiting[5]) =
      some { kind := .brk, level := 1, causeStep := 203, merged := 1 } := by decide

/-- 6.8, event 5: M = 1 cancels the MARK of source 12 and keeps the BREAK of source 5. -/
theorem test_maskWrite_cancels :
    let s := waiting (waiting follower203 12 { kind := .mark, level := 0, causeStep := 203, merged := 0 }) 5
      { kind := .brk, level := 1, causeStep := 203, merged := 1 }
    let t := after (.maskWrite { frameTo 5 with value := 1 }) s
    t.requests.waiting[12] = none ∧ (t.requests.waiting[5]).isSome = true ∧ t.requests.cancelCount = 1 := by
  decide +kernel

/-! ### Frames: 7.8 and 7.9 -/

/-- The HALT frame of 7.8 as the root emits it. -/
def haltFrame : BeatFields := { beat .halt 116 116 with reached := true }

/-- Part 1 of 7.8, in BROKEN at step 116. -/
def part1 : State :=
  waiting (halted (counted (part .follower .broken (some 1)) 116 116) 116 .brk) 9
    { kind := .mark, level := 1, causeStep := 116, merged := 0 }

/-- Part 2 of 7.8, in HALTING at step 115. -/
def part2 : State := halted (counted (part .follower .halting (some 2)) 115 116) 116 .brk

/-- The beat frame a part is sending. -/
def sentBeat (s : State) : Option BeatFields := s.handler.sending.map readBeat

/-- 7.8: part 1 keeps REACHED and places its MARK into slot 0. -/
theorem test_beatFrameAtFollower_places :
    (sentBeat (after (.beatFrameAtFollower (writtenBeat haltFrame)) part1)).map
        (fun f => (f.reached, f.unsync, f.slots[0], f.slots[1])) =
      some (true, false, some { position := 1, source := 9, kind := .mark, level := 1, causeStep := 116, merged := 0 }, none) := by
  decide +kernel

/-- 7.8: part 2, one step behind, stays in HALTING and clears REACHED. -/
theorem test_beatFrameAtFollower_clears_reached :
    let t := after (.beatFrameAtFollower (writtenBeat haltFrame)) part2
    (sentBeat t).map (fun f => (f.reached, f.unsync)) = some (false, false) ∧ t.seq.runState = .halting := by decide +kernel

/-- 7.9: the 62nd follower takes position 62, and the 63rd is left without one. -/
theorem test_enumFrameAtFollower_last_position :
    let t := after (.enumFrameAtFollower { reserved := 0, nextPosition := 62, excessCount := 0 }) (part .follower .idle none)
    t.handler.position = some 62 ∧ t.seq.runState = .ready ∧
      t.handler.sending.map readEnum = some { reserved := 0, nextPosition := 63, excessCount := 0 } := by decide
theorem test_enumFrameAtFollower_excess :
    let t := after (.enumFrameAtFollower { reserved := 0, nextPosition := 63, excessCount := 0 }) (part .follower .ready (some 9))
    t.handler.position = none ∧ t.seq.runState = .idle ∧
      t.handler.sending.map readEnum = some { reserved := 0, nextPosition := 63, excessCount := 1 } := by decide

/-- A root that has an enumeration outstanding. -/
def enumerating : State :=
  let s := rootPart .ready
  s.setHandler { s.handler with enumerationOutstanding := true }

theorem test_enumFrameAtRoot :
    let t := after (.enumFrameAtRoot { reserved := 0, nextPosition := 63, excessCount := 1 }) enumerating
    t.handler.ringSize = some 63 ∧ t.handler.excessCount = 1 ∧ t.handler.enumerationOutstanding = false := by decide
theorem test_enumerationTimeout :
    let t := after .enumerationTimeout enumerating
    t.handler.ringSize = none ∧ t.handler.enumerationLost = true := by decide

/-- R114, R176: a frame cut short fails its check; 6.8, event 6. -/
theorem test_frameGapTimeout_raises :
    let t := after (.frameGapTimeout [1, 2]) (inFrame (counted (follower .run) 204 208))
    t.handler.checkErrors = 1 ∧ t.requests.waiting[33] = some { kind := .brk, level := 3, causeStep := 204, merged := 0 } := by
  decide
theorem test_frameOverlength :
    (after (.frameOverlength (List.replicate 62 1)) (inFrame (follower .run))).handler.checkErrors = 1 := by decide

/-- R176: of the end mark and the gap limit that fall together, the second takes no frame. -/
theorem test_gap_limit_after_end_mark :
    let s := inFrame (follower .run)
    (after (.frameGapTimeout [1, 2]) (after (.beatFrameAtFollower [1]) s)).handler.checkErrors = 1 ∧
      (after (.beatFrameAtFollower [1]) (after (.frameGapTimeout [1, 2]) s)).handler.checkErrors = 1 := by decide
theorem test_startMarkCut :
    let t := after (.startMarkCut [1]) (inFrame (follower .run))
    t.handler.checkErrors = 1 ∧ t.handler.reception = .receiving := by decide
theorem test_startMark : (after .startMark (follower .run)).handler.reception = .receiving := by decide

/-- A follower in RUN with these bytes of a frame delivered. -/
def receiving (arrived : List Byte) : State :=
  let s := inFrame (follower .run)
  s.setHandler { s.handler with arrived }

/-- R177: the mark cuts the frame of the bytes delivered, here a good frame of an unknown type, and none of them are the next one's. -/
theorem test_startMark_cuts :
    let t := after .startMark (receiving (withCheck [9]))
    t.handler.unknowns = 1 ∧ t.handler.checkErrors = 0 ∧ t.handler.reception = .receiving ∧ t.handler.arrived = [] := by
  decide

/-- R176: the 62nd byte completes the frame, and a 63rd belongs to no frame. -/
theorem test_tick_62nd_byte :
    let t := (receiving (List.replicate 61 1)).handler.bytesTicked [2, 3]
    t.arrived = List.replicate 61 1 ++ [2] ∧ t.gapTimer = 0 ∧
      ((follower .run).setHandler t).dueEvents = [.frameOverlength (List.replicate 61 1 ++ [2])] := by decide

/-- R176: the fourth microsecond without a byte completes the frame with the bytes delivered. -/
theorem test_tick_gap_limit :
    let late := { (receiving [7]).handler with gapTimer := 3 }
    ((follower .run).setHandler (late.bytesTicked [])).dueEvents = [.frameGapTimeout [7]] ∧
      ((follower .run).setHandler (late.bytesTicked [8])).dueEvents = [] := by decide
theorem test_frameTransmitDone :
    let s := (((follower .run).hand [1]).hand [2]).hand [3]
    (after .frameTransmitDone s).handler.sending = some [2] ∧ (after .frameTransmitDone s).handler.queue = [[3]] := by decide

/-! ### The root: 8.8, 8.10, 9.6 -/

/-- The root of 8.10 in RUN at C = `step`, G_root = `grant`, K = 4, Ld = 12. -/
def root810 (step grant : Nat) : State := paced (counted (rootPart .run) step grant) 4 12

/-- 8.10, event 1: the grant rises to 112, and the frame is listed at step 100. -/
theorem test_emission_raises_grant :
    let s := (root810 100 110).emit
    s.root.rootGrant = 112 ∧ s.root.outstanding = [listed 0 112 100 false] := by decide

/-- 8.10, event 4: a BREAK in slot 0 decides the halt at F = 116. -/
theorem test_return_decides_halt :
    let f := { beat .run 116 0 with
      slots := (Vector.replicate 4 none).set 0
        (some { position := 2, source := 5, kind := .brk, level := 1, causeStep := 103, merged := 0 }) }
    let t := (root810 106 116).processReturn f (listed 41 116 104 false)
    t.seq.haltStep = some 116 ∧ t.seq.runState = .halting ∧ t.root.haltRecord.decisionStep = some 106 ∧
      t.root.largestRoundTrip = 2 := by decide

/-- 8.10, event 10: the frame that left at 116 with REACHED 1 confirms the halt. -/
theorem test_beatFrameAtRoot_confirms :
    let s := awaiting (halted (counted (rootPart .halting) 116 116) 116 .brk) [listed 29 116 116 true]
    let t := after (.beatFrameAtRoot (writtenBeat haltFrame)) s
    t.seq.runState = .broken ∧ t.root.outstanding = [] := by decide +kernel

/-- R134: a return of the second entry loses the first and decides a halt with RING_LOSS. -/
theorem test_beatFrameAtRoot_ring_loss :
    let s := awaiting (root810 106 116) [listed 28 112 100 false, listed 29 116 104 false]
    let t := after (.beatFrameAtRoot (writtenBeat (beat .run 116 0))) s
    t.root.lostCount = 1 ∧ t.seq.runState = .halting ∧
      t.root.haltRecord.entries.map (fun e => (e.request.source, e.request.kind)) = [(42, .brk)] := by decide +kernel

theorem test_deferredEmission :
    let s := (rootPart .ready).setRoot { (rootPart .ready).root with emissionDue := true }
    (after .deferredEmission s).root.outstanding.length = 1 ∧ (after .deferredEmission s).root.emissionDue = false := by decide
theorem test_beatWatchdogExpiry :
    let s := (follower .run).setSeq { (follower .run).seq with watchdog := .running 500 1000 }
    (after .beatWatchdogExpiry (atTime s 1500)).seq.runState = .stranded ∧
      (after .beatWatchdogExpiry (atTime s 1500)).seq.silenceCount = 1 ∧
      (after .beatWatchdogExpiry (atTime s 1499)).seq.runState = .run := by decide
theorem test_returnTimeout :
    let t := after .returnTimeout (atTime (awaiting (root810 106 116) [listed 28 112 100 false]) 2000)
    t.seq.runState = .halting ∧ t.seq.ringSilent = true ∧ t.root.lostCount = 1 ∧ t.root.outstanding = [] := by decide

/-- R136: a return taken first leaves a new oldest entry, emitted at 5, which has not reached the timeout of 2000 at 2000. -/
theorem test_returnTimeout_of_new_oldest :
    let s := awaiting (rootPart .ready) [{ listed 29 116 104 false with emissionTime := 5 }]
    (after .returnTimeout (atTime s 2000)).root.outstanding.length = 1 ∧ (after .returnTimeout (atTime s 2005)).root.outstanding.length = 0 := by
  decide

/-- A root in RUN at C = 3, G = 4, at monitor time 500 with a beat of time 0 outstanding, and a stage with a return timeout of 500
that is pending at step 4. -/
def lowered : State :=
  let s := atTime (awaiting (pendingAt (root810 3 4) 4) [listed 28 4 0 false]) 500
  s.setPlan { s.plan with staged := { s.plan.staged with header := { s.plan.staged.header with returnTimeout := 500 } } }

/-- R159: the strobe that applies a return timeout already reached ends with its expiry: the halt is decided and nothing is
outstanding; the strobe before it is not this one. -/
theorem test_paceStrobe_applies_a_reached_timeout :
    let t := after (.paceStrobe 0 .stepFirst) lowered
    t.seq.step = 4 ∧ t.seq.ringSilent = true ∧ t.seq.runState = .halting ∧ t.root.lostCount = 1 ∧
      t.root.haltRecord.entries.map (fun e => (e.request.source, e.request.causeStep)) = [(43, 4)] := by decide

/-- 8.8: RUN_FOR with n = 4 at C_root = 500, in RUN with G_root = 510 and in HALTED. -/
theorem test_runFor_in_run :
    let t := after (.runFor { frameTo 0 with value := 4 }) (root810 500 510)
    t.root.target = some 510 ∧ reply t = some (0, 10) := by decide
theorem test_runFor_in_halted :
    let t := after (.runFor { frameTo 0 with value := 4 }) (paced (counted (rootPart .halted) 500 500) 4 12)
    t.seq.runState = .halting ∧ t.seq.haltStep = some 504 ∧ t.root.rootGrant = 504 := by decide
theorem test_run_degraded :
    let s := (rootPart .ready).setRoot { (rootPart .ready).root with ringUnsynchronised := true }
    reply (after (.run (frameTo 0)) s) = some (0x0C, 0) := by decide
theorem test_run : (after (.run (frameTo 0)) (paced (rootPart .ready) 4 12)).root.rootGrant = 12 := by decide
theorem test_pause :
    let t := after (.pause (frameTo 0)) (root810 106 116)
    t.seq.runState = .halting ∧ t.seq.haltStep = some 116 ∧ t.seq.haltKind = .pause := by decide
theorem test_clearBreak :
    (after (.clearBreak (frameTo 0)) (halted (counted (rootPart .broken) 116 116) 116 .brk)).seq.runState = .halted := by decide
theorem test_origin :
    let t := after (.origin (frameTo 0)) (halted (counted (rootPart .broken) 116 116) 116 .brk)
    t.seq.step = 0 ∧ t.seq.runState = .ready ∧ t.root.announcedOrigin = some 0 ∧ t.seq.haltStep = none := by decide

/-- 9.6: SWAP at G_root = 132 with next stage 4 replies 5 and announces stage 5 at 133. -/
theorem test_swap :
    let s := (root810 121 132).setPlan { (root810 121 132).plan with liveStage := 4, nextStage := 4 }
    let t := after (.swap (frameTo 0)) s
    t.plan.announced = some { stage := 5, step := 133 } ∧ reply t = some (0, 5) := by decide

/-- 9.6: the kept-phase clamp lowers φ 8 to 5 under a high span of 6. -/
theorem test_kept_phase_clamp :
    ({ TrackRecord.default with mode := .free, high := 6, restartOnActivation := false } : TrackRecord).activated
      { TrackRun.default with phase := 8, level := true } = { TrackRun.default with phase := 5, level := true } := by decide
theorem test_enumerate :
    let t := after (.enumerate (frameTo 0)) (part .root .idle (some 0))
    t.seq.runState = .ready ∧ t.handler.sending.map readEnum = some { reserved := 0, nextPosition := 1, excessCount := 0 } := by
  decide

/-! ### Service frames -/

theorem test_serviceFramePass :
    let t := after (.serviceFramePass 1 (frameTo 6)) (follower .run)
    t.handler.sending.map readService = some (frameTo 6) := by decide
theorem test_unassignedCommand : reply (after (.unassignedCommand 0x0C (frameTo 5)) (follower .run)) = some (1, 0) := by
  decide

/-- PART field 0 reads the run state; READY is 2 (R175). -/
theorem test_read : reply (after (.read { frameTo 5 with table := 0x0C }) (follower .ready)) = some (0, 2) := by decide
theorem test_write :
    let t := after (.write { frameTo 5 with table := 1, index := 3, field := 3, value := 12 }) (follower .ready)
    (t.plan.staged.tracks[3]).high = 12 := by decide
theorem test_eventLimitWrite :
    let t := after (.eventLimitWrite { frameTo 5 with index := 2, value := 3 }) (follower .ready)
    (t.events.entries[2]).remaining = 3 := by decide
theorem test_sourceWrite_fixed :
    reply (after (.sourceWrite { frameTo 5 with index := 33, field := 1, value := 0 }) (follower .ready)) = some (6, 0) := by
  decide
theorem test_sourceWrite_kind :
    let t := after (.sourceWrite { frameTo 5 with index := 34, field := 2, value := 3 }) (follower .run)
    t.requests.clampKind = some .brk ∧ t.requests.underrunKind = some .mark := by decide
theorem test_gateWrite :
    ((after (.gateWrite { frameTo 5 with value := 0x81 }) (follower .ready)).events.gates).toList =
      [true, false, false, false, false, false, false, true] := by decide
theorem test_setBits :
    (after (.setBits { frameTo 5 with table := 10, value := 8 }) (follower .ready)).events.gates[3] = true := by decide
theorem test_clearBits :
    (after (.clearBits { frameTo 5 with table := 10, value := 8 })
      (after (.setBits { frameTo 5 with table := 10, value := 12 }) (follower .ready))).events.gates.toList =
      [false, false, true, false, false, false, false, false] := by decide
theorem test_testSet :
    let s := (follower .ready).setEvents { (follower .ready).events with gates := (Vector.replicate 8 false).set 1 true }
    let t := after (.testSet { frameTo 5 with table := 10, value := 1 }) s
    reply t = some (0, 2) ∧ t.events.gates[0] = true := by decide
theorem test_cursor_at_end :
    (after (.cursor { frameTo 5 with table := 1, index := 24 }) (follower .ready)).cursor =
      { table := .trackStaged, index := 24 } := by decide
/-- 10.6, first frame at part 1: the status stays OK, and the reply value counts the part. -/
theorem test_cursor_broadcast :
    let f := { frameTo 63 with table := 1, index := 3, status := 0, replyValue := 1 }
    reply (after (.cursor f) (follower .halted)) = some (0, 2) ∧
      (after (.cursor f) (follower .halted)).cursor = { table := .trackStaged, index := 3 } := by decide
theorem test_readNext_at_end :
    let s := (follower .ready).setCursor { table := .trackStaged, index := 24 }
    reply (after (.readNext (frameTo 5)) s) = some (0x0A, 0) := by decide
theorem test_writeNext :
    let s := (follower .ready).setCursor { table := .trackStaged, index := 2 }
    let t := after (.writeNext { frameTo 5 with field := 4, offset := 1, value := 9 }) s
    (t.plan.staged.tracks[3]).low = 9 ∧ t.cursor.index = 4 := by decide
theorem test_copyLive_locked :
    let s := (follower .ready).setPlan { (follower .ready).plan with pendingActivation := some { stage := 1, step := 9 } }
    reply (after (.copyLive (frameTo 5)) s) = some (7, 0) := by decide
theorem test_takeNotice_empty : reply (after (.takeNotice (frameTo 0)) (rootPart .ready)) = some (0x0E, 0) := by decide
theorem test_takeNotice_not_root : reply (after (.takeNotice (frameTo 5)) (follower .ready)) = some (9, 0) := by
  decide
theorem test_resetPart :
    let t := after (.resetPart (frameTo 5)) (counted (follower .run) 7 9)
    t.seq.step = 0 ∧ t.seq.grant = 0 ∧ t.seq.runState = .ready ∧ t.seq.originNumber = none := by decide

/-- R53, R171: an inverted lane on a high track is filled with ones and low. -/
theorem test_resetPart_fills_lanes :
    let s := follower .run
    let live := s.plan.live
    let high : TrackRecord := { TrackRecord.default with initialLevel := true }
    let shows : LaneRecord := { source := .track 3, invert := true, retard := 9 }
    let t := after (.resetPart (frameTo 5)) (s.setPlan { s.plan with
      live := { live with tracks := live.tracks.set 3 high, lanes := live.lanes.set 31 shows } })
    (t.lanes[31]).history = Vector.replicate 16 true ∧ (t.lanes[31]).output = false := by decide

/-! ### Witnesses: every statement's hypotheses are met, clause by clause -/

theorem witness_StepTakesFrontCommand : (State.reset.setPending [.powerOn]).pending = .powerOn :: [] := rfl
theorem witness_EveryCommandCompletes :
    (∃ t, exec .startMark (follower .run) = .next t) ∧ State.reset.seq.runState = .cold ∧
      State.reset.seq.referencePresent = false ∧ (follower .run).seq.runState ≠ .cold ∧
      (State.reset.setSeq { State.reset.seq with resetN := false }).seq.resetN = false ∧ (rootPart .run).seq.role = .root ∧
      (follower .run).seq.role = .follower ∧ (rootPart .idle).seq.runState = .idle ∧
      (rootPart .run).handler.enumerationOutstanding = false ∧ (rootPart .run).root.emissionDue = false ∧
      32 ≤ (awaiting (rootPart .run) (List.replicate 32 (listed 0 0 0 false))).root.outstanding.length :=
  ⟨⟨_, rfl⟩, by decide⟩

/-- A follower with this strobe count, against the pace 100. -/
def strobed (count : Nat) : State := (follower .run).setSeq { (follower .run).seq with strobeCount := count }

theorem witness_EmptyQueueTicks :
    State.reset.pending = [] ∧ (strobed 98).seq.referencePresent = true ∧ (strobed 98).seq.runState ≠ .cold ∧
      (strobed 98).pending = [] ∧ (strobed 98).seq.strobeCount + 1 < (strobed 98).seq.paceInForce ∧
      (strobed 99).seq.paceInForce ≤ (strobed 99).seq.strobeCount + 1 ∧ State.reset.seq.referencePresent = false ∧
      (settling.seq.referencePresent = true ∧ settling.seq.runState = .cold) ∧
      ((inFrame (follower .run)).handler.ringIn = true ∧ (inFrame (follower .run)).handler.reception = .receiving) ∧
      (follower .run).handler.reception ≠ .receiving := by decide
theorem witness_LeavingCold :
    settling.seq.runState = .cold ∧ settling.seq.resetN = true ∧ settling.seq.referencePresent = true ∧
      settling.handler.ringIn = false ∧ (∃ t, exec (.settleTimerExpiry false) settling = .next t ∧ t.seq.runState ≠ .cold) ∧
      ∃ t, exec .pinReset (follower .run) = .next t ∧ t.seq.runState = .cold :=
  ⟨rfl, rfl, rfl, rfl, ⟨_, rfl, by decide⟩, _, rfl, rfl⟩
theorem witness_RoleFixedOnLeavingCold :
    (follower .run).seq.runState ≠ .cold ∧ (Instr.startMark ≠ .powerOn ∧ Instr.startMark ≠ .pinReset) ∧
      ∃ t, exec .startMark (follower .run) = .next t := ⟨by decide, by decide, _, rfl⟩
theorem witness_ReferenceLossAndReturn :
    (settling.seq.referencePresent = true ∧ settling.seq.runState = .cold) ∧
      ((follower .halting).seq.referencePresent = true ∧ (follower .halting).seq.role = .follower ∧
        (follower .halting).seq.runState = .halting) ∧
      ((rootPart .run).seq.role = .root ∧ (rootPart .run).seq.runState = .run) ∧
      (follower .broken).seq.runState ≠ .cold ∧ (follower .broken).seq.runState ≠ .run ∧
        (follower .broken).seq.runState ≠ .halting := by decide

/-- A follower in RUN at step 3 of 8 whose next command is a strobe. -/
def strobing : State := (counted (follower .run) 3 8).setPending [.paceStrobe 0 .stepFirst]

theorem witness_StepKeepsLaws :
    strobing.TrackLaw ∧ strobing.LaneLaw ∧ strobing.CellLaw ∧ strobing.EventLaw ∧ strobing.RequestLaw ∧ strobing.QueueLaw ∧
      strobing.CursorLaw ∧ strobing.CountLaw ∧ strobing.PortsLaw ∧ strobing.GrantLaw ∧ strobing.PositionLaw ∧
      strobing.FollowerLaw :=
  ⟨by decide, by decide, by decide, by decide, by decide, by decide, by decide,
    by decide, by decide, by decide, by decide, by decide⟩
theorem witness_StepKeepsLaws_step : ∃ t, step strobing = .next t := ⟨_, rfl⟩
theorem witness_StepCounterRisesAtStrobesOnly :
    strobing.GrantLaw ∧ (∃ t, exec (.paceStrobe 0 .stepFirst) strobing = .next t ∧ strobing.seq.step < t.seq.step) ∧
      ∃ t, exec (.resetPart (frameTo 5)) strobing = .next t ∧ t.seq.step < strobing.seq.step ∧ t.seq.grant < strobing.seq.grant :=
  ⟨by decide, ⟨_, rfl, by decide⟩, _, rfl, by decide, by decide⟩

/-- A follower in RUN at C 3 that has a RESET_PART frame in reception, all its bytes delivered and its end mark lost. -/
def receivingReset : State := counted (receiving (writtenService 0x0B (frameTo 5))) 3 8

theorem witness_StepCounterRisesAtStrobesOnly_startMark :
    receivingReset.GrantLaw ∧ (after .startMark receivingReset).seq.step < receivingReset.seq.step ∧
      (receivingReset.frameCompleted .startMark).map frameType = some (some .service) ∧
      (receivingReset.frameCompleted .startMark).map (fun bytes => byteAt bytes 3) = some 0x0B := by decide +kernel

theorem witness_FollowerStrobeTakesStep :
    let s := counted (follower .run) 3 4
    (s.seq.role = .follower ∧ s.seq.runState = .run ∧ s.seq.referencePresent = true ∧ s.seq.step < s.seq.grant ∧
      ∀ a ∈ (pendingAt s 5).plan.pendingActivation, a.step ≠ s.seq.step + 1) ∧
      (pendingAt s 4).plan.pendingActivation = some { stage := 1, step := 4 } ∧
        (⟨1, 4⟩ : Activation).step = (pendingAt s 4).seq.step + 1 := by decide
theorem witness_StrobeWithoutStep :
    (follower203.seq.runState = .run ∧ follower203.seq.step = follower203.seq.grant ∧ follower203.seq.role = .follower ∧
      follower203.seq.referencePresent = true) ∧
      ((follower .idle).seq.runState ≠ .cold ∧ (follower .idle).seq.runState ≠ .run ∧
        (follower .idle).seq.runState ≠ .halting) ∧
      (let s := counted (follower .halting) 4 4; s.seq.runState = .halting ∧ s.seq.step = s.seq.grant) ∧
      let s := halted (counted (follower .halting) 4 5) 4 .pause
      s.seq.runState = .halting ∧ s.seq.haltStep = some s.seq.step := by decide
theorem witness_HaltingEndsAtHaltStep :
    let s := fun step kind => halted (counted (follower .halting) step 5) 5 kind
    ((s 3 .pause).seq.runState = .halting ∧ (s 3 .pause).seq.haltStep = some 5 ∧ (s 3 .pause).seq.step < 5 ∧
      (s 3 .pause).seq.step < (s 3 .pause).seq.grant ∧ (s 3 .pause).seq.step + 1 < 5) ∧
      ((s 4 .pause).seq.step + 1 = 5 ∧ (s 4 .pause).seq.step < (s 4 .pause).seq.grant ∧ (s 4 .pause).seq.haltKind = .pause) ∧
      ((s 4 .brk).seq.step + 1 = 5 ∧ (s 4 .brk).seq.haltKind = .brk) ∧
      (s 4 .brk).seq.synchronised = true ∧ (beat .halt 5 5).mode = .halt ∧ (s 4 .brk).seq.step < (beat .halt 5 5).haltStep := by
  decide
theorem witness_TrackAdvances_gates :
    (walkedClosed .clean).level = true ∧ ({ TrackRecord.default with gateStyle := .clean } : TrackRecord).gateStyle = .clean ∧
      TrackRecord.default.gateStyle = .hard ∧ TrackRecord.default.gateSource = .none ∧
      ({ TrackRecord.default with gateSource := .flag 7, gatePolarity := .openHigh } : TrackRecord).gateSource = .flag 7 ∧
      ({ TrackRecord.default with gateSource := .cell 15, gatePolarity := .openLow } : TrackRecord).gateSource = .cell 15 := by
  decide

/-- The record of track 0 in 2.10. -/
def free344 : TrackRecord := { TrackRecord.default with mode := .free, increment := 3, high := 4, low := 4 }

theorem witness_TrackAdvances :
    free344.increment ≤ min free344.high free344.low ∧ 1 < free344.span true ∧ 3 < free344.span false ∧
      free344.high ≤ 1 + free344.increment ∧ free344.low ≤ 1 + free344.increment ∧
      0 + free344.increment < free344.span true ∧ 0 + free344.increment < free344.span false := by decide
theorem witness_EdgesOverOneTurn :
    1 ≤ free344.increment ∧ free344.increment ≤ min free344.high free344.low ∧ TrackRun.default.phase < free344.span false := by
  decide
theorem witness_RestartAndActivationOfTracks :
    1 ≤ TrackRecord.default.high ∧ 1 ≤ TrackRecord.default.low ∧ TrackRecord.default.restartOnActivation = true ∧
      ({ TrackRecord.default with restartOnActivation := false } : TrackRecord).restartOnActivation = false := by decide
theorem witness_LaneShowsRetardedSource :
    (LaneSource.track 23 = .track 23 ∧ LaneSource.parity = .parity ∧ LaneSource.low = .low) ∧ (0 : Fin 16).val = 0 ∧
      (15 : Fin 16).val ≠ 0 := by decide
theorem witness_CellInputsAndModeTables :
    ((15 : Fin 64).val < 16 ∧ (16 : Fin 64).val = 16 + (0 : Fin 24).val ∧ (39 : Fin 64).val = 16 + (23 : Fin 24).val ∧
      (40 : Fin 64).val = 40 + (0 : Fin 16).val ∧ (55 : Fin 64).val = 40 + (15 : Fin 16).val ∧
      (56 : Fin 64).val = 56 + (0 : Fin 8).val ∧ (63 : Fin 64).val = 56 + (7 : Fin 8).val) ∧
      (∀ mode, let c := cellOf mode .rise 2
        1 ≤ c.length ∧ (2 : Nat) ≤ c.length ∧ c.mode = mode ∧ c.edge.qualifies false true = true ∧
          c.edge.qualifies true false = false ∧ c.edge.qualifies true true = false ∧ 1 + 1 = c.length ∧ 0 + 1 < c.length ∧
          1 < (2 : Nat) ∧ 0 < (1 : Nat)) := by
  refine ⟨by decide, fun mode => ?_⟩
  cases mode <;> decide
theorem witness_StretchAndSettleRuns :
    (let c := cellOf .stretch .rise 2
     c.mode = .stretch ∧ 1 ≤ c.length ∧ c.edge.qualifies false true = true ∧ [true, false].length ≤ c.length) ∧
      let c := cellOf .settle .both 2
      c.mode = .settle ∧ 1 ≤ c.length ∧ c.edge.qualifies true false = true := by decide

/-- A follower in RUN at step 9 whose staged bank changes lane 5 and cell 2. -/
def restaged : State :=
  let s := counted (follower .run) 9 9
  let staged := s.plan.staged
  s.setPlan { s.plan with
    staged := { staged with
      lanes := staged.lanes.set 5 { source := .parity, invert := true, retard := 0 }
      cells := staged.cells.set 2 (cellOf .filter .rise 3) } }

theorem witness_ActivationApplies :
    let t := restaged.activate { stage := 1, step := 9 }
    restaged.plan.live.lanes[(4 : Fin 32)] = t.plan.live.lanes[(4 : Fin 32)] ∧
      restaged.plan.live.lanes[(5 : Fin 32)] ≠ t.plan.live.lanes[(5 : Fin 32)] ∧
      restaged.plan.live.cells[(3 : Fin 16)] = t.plan.live.cells[(3 : Fin 16)] ∧
      restaged.plan.live.cells[(2 : Fin 16)] ≠ t.plan.live.cells[(2 : Fin 16)] := by decide
theorem witness_FollowerLearnsActivation :
    let f := fun step => { beat .run 12 0 with activateFlag := true, stage := 1, activationStep := step }
    (beat .run 12 0).activateFlag = false ∧ (beat .run 12 0).stage = restaged.plan.liveStage ∧
      (pendingAt restaged 10).plan.pendingActivation = some { stage := (f 10).stage, step := (f 10).activationStep } ∧
      ((f 10).activateFlag = true ∧ (f 10).stage ≠ restaged.plan.liveStage ∧
        restaged.plan.pendingActivation ≠ some { stage := (f 10).stage, step := (f 10).activationStep }) ∧
      (f 0).activationStep = 0 ∧
      (restaged.seq.runState = .run ∧ restaged.seq.originNumber ≠ none ∧ (f 9).activationStep ≤ restaged.seq.step) ∧
      ¬ (f 10).activationStep ≤ restaged.seq.step := by decide

/-- An EDGES entry on track 0 with a period, and the tracks after that track's second rising edge. -/
def edgesEntry (period : Nat) : EventEntry := { EventEntry.default with enabled := true, base := .edges, value := 2, period }
def risenTracks : Vector TrackRun 24 := Vector.replicate 24 { TrackRun.default with edges := 2, lastEdge := .rise }

/-- A CAPTURE entry on the changes of cell 0, and the cells after such a change. -/
def captureEntry (captureEdge : CaptureEdge) : EventEntry :=
  { EventEntry.default with enabled := true, type := .capture, captureEdge }
def changedCells (lastChange : Change) : Vector CellRun 16 := Vector.replicate 16 { CellRun.default with lastChange }

theorem witness_EntriesAndTheirMatches :
    ((entry2 1 2 7).matches_ 7 stillTracks stillCells = true ∧ (entry2 1 2 7).type = .compare ∧ (entry2 1 2 7).base = .step ∧
      0 < (entry2 1 2 7).period ∧ (entry2 1 2 7).value + (entry2 1 2 7).period ≤ 2 ^ 48 - 1) ∧
      (entry7.matches_ 7 stillTracks stillCells = true ∧ entry7.period = 0) ∧
      ((entry2 1 2 (2 ^ 48 - 1)).matches_ (2 ^ 48 - 1) stillTracks stillCells = true ∧
        2 ^ 48 - 1 < (entry2 1 2 (2 ^ 48 - 1)).value + (entry2 1 2 (2 ^ 48 - 1)).period) ∧
      ((edgesEntry 1).matches_ 9 risenTracks stillCells = true ∧ (edgesEntry 1).base = .edges) ∧
      ((captureEntry .rise).matches_ 9 stillTracks (changedCells .rise) = true ∧ (captureEntry .rise).type = .capture) ∧
      (captureEntry .fall).matches_ 9 stillTracks (changedCells .fall) = true := by decide

/-- The entries of 5.8 that operate flag 1 in step 7. -/
def operates (i : Fin 32) : Prop :=
  (table7.entries[i]).matches_ 7 stillTracks stillCells = true ∧ (table7.entries[i]).gateOp ≠ .none ∧
    (table7.entries[i]).gateFlag = 1

theorem witness_FlagsAndMarkersAfterStep :
    operates 7 ∧ (∀ j, 7 < j → ¬ operates j) ∧
      ∀ i : Fin 32, ¬ ((table7.entries[i]).matches_ 7 stillTracks stillCells = true ∧ (table7.entries[i]).gateFlag = 2) := by
  unfold operates
  decide
theorem witness_RaiseOutcomes :
    (Kind.mark ≠ .brk ∧ Kind.pause ≠ .brk) ∧ (let u := { follower203.requests with mask := 1 }; u.qualifies 12 = false) ∧
      follower203.requests.qualifies 33 = true ∧
      follower203.requests.waiting[(33 : Fin 36)] = none ∧
      let u := follower203.requests.raise 5 (some .mark) 203
      u.qualifies 5 = true ∧ u.waiting[(5 : Fin 36)] = some ⟨.mark, 1, 203, 0⟩ := by decide
theorem witness_BestRequestIsPlaced :
    part1.handler.position = some 1 ∧ part1.seq.runState.numbered = true ∧
      firstEmptySlot (writtenBeat haltFrame) = some 0 ∧ part1.requests.best = some (9, ⟨.mark, 1, 116, 0⟩) ∧
      carriesPosition (writtenBeat haltFrame) 1 = false ∧
      let own := { haltFrame with slots := (Vector.replicate 4 none).set 0 (some ⟨1, 9, .mark, 1, 116, 0⟩) }
      firstEmptySlot (writtenBeat own) = some 1 ∧ carriesPosition (writtenBeat own) 1 = true := by decide
theorem witness_WritesRetestPending :
    let u := follower203.requests.raise 5 (some .mark) 203
    let qualifies := fun s : SourceSetting => s.level = 3 ∨ s.enable = true ∧ (1 : Fin 4) ≤ s.level
    u.waiting[(5 : Fin 36)] = some ⟨.mark, 1, 203, 0⟩ ∧ qualifies { u.settings[(5 : Fin 36)] with enable := true } ∧
      ¬ qualifies { u.settings[(5 : Fin 36)] with enable := false } ∧ qualifies { u.settings[(5 : Fin 36)] with level := 1 } ∧
      ¬ qualifies { u.settings[(5 : Fin 36)] with level := 0 } := by decide
theorem witness_RingOutQueue :
    let h := (follower .run).handler
    let full := { h with sending := some [1], queue := [[2], [3], [4], [5]] }
    (h.sending = none ∧ h.queue = []) ∧
      (let three := { h with sending := some [1], queue := [[2], [3], [4]] }
       three.sending ≠ none ∧ three.queue.length < 4) ∧
      4 ≤ full.queue.length ∧ full.queue = [2] :: [[3], [4], [5]] := by decide

/-- A beat frame with every field at the top of its range. -/
def fullFrame : BeatFields :=
  { beat .run (2 ^ 48 - 1) (2 ^ 48 - 1) with
    sequence := 255, originNumber := 255, stage := 255, activationStep := 2 ^ 48 - 1
    slots := Vector.replicate 4 (some ⟨62, 45, .brk, 3, 2 ^ 48 - 1, 15⟩) }

theorem witness_FramesReadBack :
    fullFrame.sequence < 256 ∧ fullFrame.originNumber < 256 ∧ fullFrame.stage < 256 ∧ fullFrame.activationStep < 2 ^ 48 ∧
      fullFrame.grant < 2 ^ 48 ∧ fullFrame.haltStep < 2 ^ 48 ∧
      ∀ k : Fin 4, ∀ r ∈ fullFrame.slots[k], r.position < 63 ∧ (r.source < 36 ∨ 40 ≤ r.source ∧ r.source < 46) ∧ r.level < 4 ∧
        r.causeStep < 2 ^ 48 ∧ r.merged < 16 := by decide
theorem witness_ReceptionBeginsAtStartMark :
    (follower .run).handler.reception ≠ .receiving ∧ State.reset.handler.receives = false ∧
      (follower .run).handler.inReception = false ∧
      (let ended := (follower .run).setReception .ended
       ended.handler.reception ≠ .receiving ∧ ended.handler.receives = false ∧ ended.handler.inReception = false) ∧
      (inFrame (follower .run)).handler.inReception = true := by decide
theorem witness_ReceptionBeginsAtStartMark_ended :
    (∃ t, exec (.frameGapTimeout [1, 2]) (inFrame (follower .run)) = .next t) ∧
      ∃ t, exec (.frameOverlength (List.replicate 62 1)) (inFrame (follower .run)) = .next t := ⟨⟨_, rfl⟩, _, rfl⟩
theorem witness_ReceptionBeginsAtStartMark_good_frames :
    let b := writtenBeat haltFrame
    let e := writtenEnum { reserved := 0, nextPosition := 1, excessCount := 0 }
    let v := writtenService 0x0C (frameTo 5)
    (inFrame (rootPart .run)).handler.inReception = true ∧ (inFrame (rootPart .run)).seq.role = .root ∧
      (inFrame (follower .run)).seq.role = .follower ∧
      (b.length ≤ 62 ∧ frameGood b = true ∧ frameType b = some .beat ∧ beatImpossible b = false) ∧
      (v.length ≤ 62 ∧ frameGood v = true ∧ frameType v = some .service ∧
        serviceRow (.unassignedCommand 0x0C (frameTo 5)) = some (byteAt v 3, readService v)) ∧
      (e.length ≤ 62 ∧ frameGood e = true ∧ frameType e = some .enum) := by decide +kernel
theorem witness_DiscardedFrames :
    (follower .run).handler.receives = true ∧ (inFrame (follower .run)).handler.inReception = true ∧
      (List.replicate 62 (1 : Byte)).length ≤ 62 ∧
      frameGood (List.replicate 62 1) = false ∧ ([1, 2] : List Byte).length < 3 ∧
      (frameType [1] = some .beat ∧ ([1] : List Byte).length ≠ 61) ∧
      (frameType [2] = some .service ∧ ([2] : List Byte).length ≠ 20) ∧
      (frameType [3] = some .enum ∧ ([3] : List Byte).length ≠ 5) ∧
      (frameGood (withCheck [9]) = true ∧ frameType (withCheck [9]) = none) ∧
      let odd := rechecked (patch (writtenBeat haltFrame) 2 [0xC0])
      odd.length ≤ 62 ∧ frameGood odd = true ∧ frameType odd = some .beat ∧ beatImpossible odd = true := by decide +kernel
theorem witness_FollowerReadsModes :
    (follower .idle).seq.runState.readsGrant = false ∧ (part .follower .ready none).seq.runState.readsGrant = true ∧
      (let q := (counted (follower .ready) 4 5).seq; q.originNumber ≠ none ∧ q.step < max q.grant 3) ∧
      (let q := (counted (follower .ready) 5 5).seq; max q.grant 3 ≤ q.step) ∧
      (∀ state ∈ [RunState.run, .halting, .halted, .broken], state.readsGrant = true) ∧
      let q := (counted (follower .run) 5 5).seq
      (q.step < (beat .halt 6 6).haltStep ∧ q.step = (beat .halt 5 5).haltStep ∧ (beat .halt 4 4).haltStep < q.step) ∧
        (beat .halt 5 5).haltKind = .brk ∧ ({ beat .halt 5 5 with haltKind := .pause } : BeatFields).haltKind = .pause := by decide

/-- A follower in READY without requests, and a plain RUN frame. -/
def plainRun : List Byte := writtenBeat (beat .run 12 0)

theorem witness_BeatFrameAtFollower :
    (follower .ready).handler.receives = true ∧ (follower .ready).seq.role = .follower ∧ BeatBytes plainRun ∧
      (follower .ready).seq.mustOrigin (readBeat plainRun) = false ∧
      (follower .ready).plan.learns (readBeat plainRun) = false ∧
      (∀ i : Fin 36, (follower .ready).requests.waiting[i] = none) ∧ (follower .ready).handler.sending = none ∧
      (follower .ready).handler.queue = [] := by decide +kernel

/-- A RUN frame that announces origin 7. -/
def origin7 : List Byte := writtenBeat { beat .run 12 0 with originFlag := true, originNumber := 7 }

theorem witness_FollowerPerformsOrigin :
    (follower .broken).handler.receives = true ∧ BeatBytes origin7 ∧ (follower .broken).seq.mustOrigin (readBeat origin7) = true ∧
      (follower .broken).plan.pendingActivation = none ∧ (follower .broken).plan.learns (readBeat origin7) = false ∧
      (readBeat origin7).mode ≠ .halt ∧
      (pendingAt (follower .broken) 4).plan.pendingActivation = some { stage := 1, step := 4 } ∧
      (∀ i : Fin 36, ((follower .broken).performOrigin 7).requests.waiting[i] = none) ∧
      let halting7 := writtenBeat { beat .halt 6 6 with originFlag := true, originNumber := 7 }
      BeatBytes halting7 ∧ (follower .broken).seq.mustOrigin (readBeat halting7) = true := by decide +kernel
theorem witness_ForwardedBeatFrame : ∃ t, exec (.beatFrameAtFollower plainRun) (follower .ready) = .next t := ⟨_, rfl⟩
theorem witness_EnumFrames :
    ((1 : Fin 63).val ≠ 0 ∧ (1 : Fin 63).val = (1 : BitVec 6).toNat ∧ (62 : Fin 63).val = (62 : BitVec 6).toNat) ∧
      (follower .idle).handler.receives = true ∧ (follower .idle).seq.role = .follower ∧ enumerating.handler.receives = true ∧
      enumerating.seq.role = .root ∧ enumerating.handler.enumerationOutstanding = true ∧
      (rootPart .ready).handler.enumerationOutstanding = false := by decide
theorem witness_TimersExpire_watchdog :
    let s := fun state => atTime ((follower state).setSeq { (follower state).seq with watchdog := .running 1000 1000 }) 2000
    ((s .run).seq.role = .follower ∧ (s .run).seq.runState ≠ .cold ∧ (s .run).seq.watchdog = .running 1000 1000 ∧
      (s .run).seq.runState = .run) ∧
      (1000 ≤ (s .run).clock.time - 1000 ∧ (atTime (s .run) 1999).clock.time - 1000 < 1000) ∧
      ((s .idle).seq.runState ≠ .cold ∧ (s .idle).seq.runState ≠ .run ∧ (s .idle).seq.runState ≠ .halting) ∧
      (follower .run).seq.watchdog = .stopped := by decide

/-- A PAUSE and a BREAK as a follower places them. -/
def pauseRecord : RequestRecord := ⟨1, 9, .pause, 1, 109, 0⟩
def breakRecord : RequestRecord := ⟨2, 5, .brk, 1, 103, 0⟩

theorem witness_RecordsAtRoot :
    (⟨1, 9, .mark, 1, 116, 0⟩ : RequestRecord).kind = .mark ∧ (pauseRecord.kind ≠ .mark ∧ breakRecord.kind = .brk) ∧
      (rootPart .ready).seq.runState = .ready ∧ (rootPart .run).seq.runState = .run ∧
      (halted (rootPart .halted) 5 .pause).seq.haltKind = .pause ∧ (halted (rootPart .broken) 5 .brk).seq.haltKind = .brk := by
  decide
/-- A root with a BREAK of its own pending, and the root after step 1 of R132. -/
def ownBreak (state : RunState) : State :=
  waiting (halted (counted (rootPart state) 100 110) 110 .pause) 9 { kind := .brk, level := 1, causeStep := 98, merged := 0 }
def ownBreakTaken (state : RunState) : State :=
  let s := ownBreak state
  (s.setRequests { s.requests with waiting := s.requests.waiting.set 9 none, placedCount := 1 }).processRecord
    { position := 0, source := 9, kind := .brk, level := 1, causeStep := 98, merged := 0 }

theorem ownBreak_taken (state : RunState) : (ownBreak state).OwnRequestTaken (ownBreakTaken state) := by
  have h : (ownBreak state).requests.best = some (9, { kind := .brk, level := 1, causeStep := 98, merged := 0 }) := by
    cases state <;> decide
  refine ⟨fun hn => ?_, fun source p hp => ?_⟩
  · rw [h] at hn; cases hn
  · rw [h] at hp; cases hp; rfl
theorem idle_taken (s : State) (h : s.requests.best = none) : s.OwnRequestTaken s :=
  ⟨fun _ => rfl, fun source p hp => by rw [h] at hp; cases hp⟩

/-- With a record pending in RUN the halt is decided before the frame is composed; in HALTING it is a secondary; in READY a notice. -/
theorem witness_EmissionOutsideRun :
    ((ownBreak .run).OwnRequestTaken (ownBreakTaken .run) ∧ (ownBreak .run).seq.runState = .run ∧
      (ownBreakTaken .run).seq.runState = .halting ∧ (ownBreakTaken .run).seq.haltStep = some 110) ∧
      ((ownBreak .halting).OwnRequestTaken (ownBreakTaken .halting) ∧ (ownBreakTaken .halting).seq.runState = .halting ∧
        (ownBreakTaken .halting).seq.haltKind = .brk) ∧
      ((rootPart .ready).OwnRequestTaken (rootPart .ready) ∧ (rootPart .ready).seq.runState = .ready) :=
  ⟨⟨ownBreak_taken _, rfl, rfl, rfl⟩, ⟨ownBreak_taken _, rfl, rfl⟩, idle_taken _ (by decide), rfl⟩
theorem witness_EmissionRaisesGrant :
    let s := root810 100 110
    let toTarget := s.setRoot { s.root with target := some 111 }
    let atEnd := root810 (2 ^ 48 - 3) (2 ^ 48 - 2)
    (s.OwnRequestTaken s ∧ toTarget.OwnRequestTaken toTarget ∧ atEnd.OwnRequestTaken atEnd) ∧
      s.seq.runState = .run ∧ toTarget.seq.runState = .run ∧ atEnd.seq.runState = .run ∧
      s.root.target = none ∧ s.root.target ≠ some 112 ∧
      max s.root.rootGrant (min (s.seq.step + s.plan.live.header.lead) (2 ^ 48 - 1)) ≠ 2 ^ 48 - 1 ∧
      toTarget.root.target =
        some (max toTarget.root.rootGrant (min (toTarget.seq.step + toTarget.plan.live.header.lead) (min 111 (2 ^ 48 - 1)))) ∧
      atEnd.root.target = none ∧
      max atEnd.root.rootGrant (min (atEnd.seq.step + atEnd.plan.live.header.lead) (2 ^ 48 - 1)) = 2 ^ 48 - 1 := by
  refine ⟨⟨idle_taken _ ?_, idle_taken _ ?_, idle_taken _ ?_⟩, ?_⟩ <;> decide
theorem witness_RootStrobeCadence :
    let s := rootPart .ready
    let counting := fun n => s.setRoot { s.root with emissionCount := n }
    let due := s.setRoot { s.root with emissionDue := true }
    let full := List.replicate 32 (listed 0 0 0 false)
    s.seq.role = .root ∧ s.seq.referencePresent = true ∧ s.seq.runState = .ready ∧ s.root.emissionDue = false ∧
      (counting 2).root.emissionCount + 1 < s.plan.live.header.spacing ∧
      s.plan.live.header.spacing ≤ (counting 3).root.emissionCount + 1 ∧ (counting 3).root.outstanding.length < 32 ∧
      32 ≤ (awaiting (counting 3) full).root.outstanding.length ∧ due.root.emissionDue = true ∧
      32 ≤ (awaiting due full).root.outstanding.length ∧ due.root.outstanding.length < 32 ∧
      ((root810 106 116).seq.role = .root ∧ (root810 106 116).seq.runState = .run ∧
        (root810 106 116).seq.step < (root810 106 116).seq.grant) ∧
      (let waits := fun step => halted (counted (rootPart .halting) step 116) 116 .brk
       ((waits 115).seq.haltStep = some 116 ∧ (waits 115).seq.step < 116 ∧ (waits 115).seq.step < (waits 115).seq.grant) ∧
         (waits 116).seq.haltStep = some (waits 116).seq.step ∧ (waits 116).seq.runState = .halting) ∧
      (rootPart .idle).seq.runState = .idle := by decide

/-- A root that awaits beats 28 and 29. -/
def awaiting2 (state : RunState) : State := awaiting (rootPart state) [listed 28 112 100 false, listed 29 116 104 false]

/-- The frame with sequence 29 returned. -/
def returned29 : List Byte := writtenBeat (beat .run 116 0)

theorem witness_ReturnedFrameMatched :
    ((awaiting2 .ready).handler.receives = true ∧ (awaiting2 .ready).seq.role = .root ∧ BeatBytes returned29) ∧
      (∀ e ∈ (rootPart .ready).root.outstanding, e.sequence ≠ (readBeat returned29).sequence) ∧
      ((awaiting2 .ready).root.outstanding = [listed 28 112 100 false] ++ listed 29 116 104 false :: [] ∧
        (listed 29 116 104 false).sequence = (readBeat returned29).sequence ∧
        ∀ x ∈ [listed 28 112 100 false], x.sequence ≠ (readBeat returned29).sequence) ∧
      (awaiting (rootPart .run) [listed 29 116 104 false]).root.outstanding = [] ++ listed 29 116 104 false :: [] ∧
      (awaiting2 .ready).seq.runState = .ready ∧ (awaiting2 .run).seq.runState ≠ .idle ∧
      (awaiting2 .run).seq.runState = .run ∧ (awaiting2 .halted).seq.runState ≠ .run := by decide +kernel
theorem witness_ReturnedFrameProcessed :
    let s := halted (counted (rootPart .halting) 116 116) 116 .brk
    s.seq.role = .root ∧ s.seq.runState = .halting ∧ (∀ k : Fin 4, haltFrame.slots[k] = none) ∧
      ((listed 29 116 116 true).haltCurrent = true ∧ haltFrame.unsync = false ∧ haltFrame.reached = true) ∧
      ({ haltFrame with unsync := true } : BeatFields).unsync = true ∧ (beat .halt 116 116).reached = false ∧
      (listed 29 116 112 false).haltCurrent = false ∧ (rootPart .run).seq.runState = .run ∧
      (listed 29 116 112 false).numberingCurrent = true ∧
      ({ listed 29 116 112 false with numberingCurrent := false } : OutstandingBeat).numberingCurrent = false ∧
      let f := { haltFrame with activateFlag := true, stage := 5, activationStep := 116 }
      let announced := s.setPlan { s.plan with announced := some { stage := 5, step := 116 } }
      f.activateFlag = true ∧ announced.plan.announced = some { stage := f.stage, step := f.activationStep } ∧
        f.activationStep ≤ (listed 29 116 116 true).rootStep ∧ ¬ f.activationStep ≤ (listed 29 116 115 true).rootStep := by decide
theorem witness_TimersExpire :
    (awaiting2 .run).seq.role = .root ∧ (rootPart .run).root.outstanding = [] ∧
      (awaiting2 .run).root.outstanding = listed 28 112 100 false :: [listed 29 116 104 false] ∧
      ((atTime (awaiting2 .run) 1999).clock.time - (listed 28 112 100 false).emissionTime <
          (awaiting2 .run).plan.live.header.returnTimeout ∧
        (awaiting2 .run).plan.live.header.returnTimeout ≤
          (atTime (awaiting2 .run) 2000).clock.time - (listed 28 112 100 false).emissionTime) ∧
      (awaiting2 .run).seq.runState = .run ∧
      ((awaiting2 .broken).seq.runState ≠ .run ∧ (awaiting2 .broken).seq.runState ≠ .halting) ∧
      (awaiting2 .halting).seq.runState = .halting := by decide

/-- A root at monitor time `time` with an enumeration outstanding for `timer` microseconds. -/
def overdueAt (time timer : Nat) : State :=
  let s := atTime (awaiting2 .ready) time
  s.setHandler { s.handler with enumerationOutstanding := true, enumerationTimer := timer }

theorem witness_TimersExpire_at_activation :
    let reached := fun time => (overdueAt time 0).plan.live.header.returnTimeout ≤ (overdueAt time 0).clock.time - 0
    (overdueAt 0 0).seq.role = .root ∧
      (overdueAt 0 0).root.outstanding = listed 28 112 100 false :: [listed 29 116 104 false] ∧
      (¬ reached 1999 ∧ reached 2000) ∧
      (¬ (overdueAt 0 1999).plan.live.header.returnTimeout ≤ (overdueAt 0 1999).handler.enumerationTimer ∧
        (overdueAt 0 2000).plan.live.header.returnTimeout ≤ (overdueAt 0 2000).handler.enumerationTimer) ∧
      (overdueAt 0 0).handler.enumerationOutstanding = true := by decide
theorem witness_ServiceFrameForms :
    serviceRow (.cursor (frameTo 5)) = some (3, frameTo 5) ∧ State.reset.handler.receives = false ∧
      ((follower .ready).handler.receives = true ∧ (frameTo 6).destination ≠ 63 ∧
        (follower .ready).handler.position.map (fun p => p.val) ≠ some (frameTo 6).destination.toNat) ∧
      ((follower .ready).TakesAlone (frameTo 5) ∧ ((follower .ready).received.answer 3 (frameTo 5)).status = .ok) ∧
      ((follower .ready).received.answer 10 (frameTo 5)).status ≠ .ok ∧ (frameTo 63).destination = 63 ∧
      (∀ code ∈ [2, 3, 5, 6, 7, 9, 11], (BitVec.ofNat 8 code).toNat ∈ [2, 3, 5, 6, 7, 9, 11]) ∧
      assignedCode 0x0C = false := by decide
theorem witness_RefusalsInOrder :
    ((follower .ready).answer 12 (frameTo 5)).status ≠ .ok ∧ assignedCode 12 = false ∧
      ((frameTo 63).destination = 63 ∧ ∀ n ∈ [2, 3, 5, 6, 7, 9, 11], (0x16 : BitVec 8).toNat ≠ n) ∧
      ((frameTo 5).destination ≠ 63 ∧ (follower .ready).seq.role = .follower ∧ 16 ≤ (0x10 : BitVec 8).toNat ∧
        (0x16 : BitVec 8).toNat ≤ 22) ∧
      ((8 : BitVec 8).toNat ∈ [1, 2, 3, 6, 7, 8] ∧ 13 ≤ (13 : BitVec 8).toNat ∧ (15 : BitVec 8).toNat ≤ 15 ∧
        16 ≤ (16 : BitVec 8).toNat) ∧
      (TableName.trackStaged.size ≤ 24 ∧ 23 < TableName.trackStaged.size ∧ TableName.trackStaged.defines 11 = false) ∧
      (TableName.part.defines 33 = true ∧ TableName.part.writes 0 33 = false) ∧
      (TableName.trackStaged.staged = true ∧ (pendingAt (follower .ready) 4).plan.pendingActivation ≠ none) ∧
      TableName.trackStaged.writes 23 2 = true ∧ (follower .ready).plan.pendingActivation = none ∧
      (follower .ready).writeField .trackStaged 23 2 4096 = none ∧
      (TableName.ofCode (1 : BitVec 8).toNat = some .trackStaged ∧ (follower .ready).MayUse .trackStaged ∧
        TableName.trackStaged.size < (25 : BitVec 16).toNat) ∧
      (((rootPart .ready).setCursor { table := .root, index := 0 }).MayUse .root ∧ 13 ≤ TableName.root.code) ∧
      (let s := (follower .ready).setCursor { table := .cellLive, index := 16 }
       s.MayUse s.cursor.table ∧ s.cursor.table.size ≤ s.cursor.index) ∧
      (let s := (follower .ready).setCursor { table := .cellLive, index := 15 }
       s.cursor.index < s.cursor.table.size) ∧
      (256 : BitVec 32).toNat > 255 ∧ (rootPart .ready).root.lastNotice = none := by decide
theorem witness_RefusalsInOrder_bits :
    (6 : BitVec 8).toNat ∈ [6, 7, 8] ∧ (TableName.laneLive, (17 : BitVec 8).toNat) ∈ [(TableName.laneLive, 17)] ∧
      (TableName.cellStaged = .cellStaged ∧ (3 : BitVec 8) = 3) ∧ (TableName.gate = .gate ∧ (0 : BitVec 8) = 0) ∧
      (15 : BitVec 16).toNat < TableName.cellStaged.size ∧ TableName.cellStaged.size ≤ (16 : BitVec 16).toNat := by decide
theorem witness_ReadsAnswerFields :
    (follower .ready).TakesAlone (frameTo 5) ∧ TableName.ofCode (12 : BitVec 8).toNat = some .part ∧
      (follower .ready).MayUse .part ∧ 0 < TableName.part.size ∧ TableName.part.defines 33 = true ∧
      ((rootPart .ready).TakesAlone (frameTo 0) ∧ (rootPart .ready).MayUse .haltRecord ∧
        0 ≤ (rootPart .ready).root.haltRecord.entries.length) ∧
      (let s := (follower .ready).setCursor { table := .cellLive, index := 15 }
       s.MayUse s.cursor.table ∧ s.cursor.index + (frameTo 5).offset.toNat < s.cursor.table.size ∧
         s.cursor.table.defines 19 = true) ∧
      let s := (rootPart .ready).setRoot { (rootPart .ready).root with lastNotice := some ⟨pauseRecord, 110, false⟩ }
      s.root.lastNotice ≠ none ∧ s.root.lastNotice = some ⟨pauseRecord, 110, false⟩ ∧
        (HaltRecord.decided .pause 116 106 pauseRecord).entries[0]? = some ⟨pauseRecord, 106, false⟩ := by decide
theorem witness_StagedWritesAndCursor :
    (follower .ready).TakesAlone (frameTo 5) ∧ (follower .ready).plan.pendingActivation = none ∧
      ((10 : BitVec 8).toNat ≤ 10 ∧
        ((follower .ready).plan.staged.tracks[(23 : Fin 24)]).write 10 1 = some TrackRecord.default) ∧
      (let s := (follower .ready).setCursor { table := .trackStaged, index := 23 }
       s.cursor.index + (frameTo 5).offset.toNat < s.cursor.table.size ∧ s.cursor.table.defines 10 = true ∧
         s.cursor.table.writes 23 10 = true ∧ (s.received.writeField s.cursor.table 23 10 1).isSome = true) ∧
      24 ≤ TableName.trackStaged.size := by decide
theorem witness_WritesWithEffect :
    (follower .ready).TakesAlone (frameTo 5) ∧ (31 : BitVec 16).toNat = (31 : Fin 32).val ∧
      (65535 : BitVec 32).toNat ≤ 65535 ∧ ((35 : Fin 36) ≠ 33 ∧ (32 : Fin 36) ≠ 35) ∧ (34 : BitVec 16).toNat = (34 : Fin 36).val ∧
      (3 : BitVec 32).toNat = (3 : Fin 4).val ∧ (1 : BitVec 32).toNat ≤ 1 ∧ (255 : BitVec 32).toNat ≤ 255 ∧
      ((32 : BitVec 16).toNat = (32 : Fin 36).val ∧
        (3 : BitVec 32).toNat = (match some Kind.brk with | none => 0 | some .mark => 1 | some .pause => 2 | some .brk => 3)) := by
  decide
theorem witness_BitCommands :
    (follower .ready).TakesAlone (frameTo 5) ∧ (255 : BitVec 32).toNat ≤ 255 ∧ (15 : BitVec 16).toNat = (15 : Fin 16).val ∧
      (follower .ready).plan.pendingActivation = none := by decide
theorem witness_TakeNotice :
    (rootPart .ready).TakesAlone (frameTo 0) ∧ (rootPart .ready).seq.role = .root ∧ (rootPart .ready).root.notices = [] ∧
      let s := (rootPart .ready).setRoot { (rootPart .ready).root with notices := [⟨pauseRecord, 110, true⟩] }
      s.root.notices = ⟨pauseRecord, 110, true⟩ :: [] := by decide
theorem witness_RunStartsWithEmission :
    let s := rootPart .ready
    let busy := s.setRoot { s.root with originOutstanding := true }
    let degraded := s.setRoot { s.root with ringUnsynchronised := true }
    let atEnd := counted (rootPart .halted) (2 ^ 48 - 1) (2 ^ 48 - 1)
    (s.TakesAlone (frameTo 0) ∧ s.seq.role = .root ∧ s.seq.runState = .ready) ∧ busy.root.originOutstanding = true ∧
      (degraded.root.originOutstanding = false ∧ degraded.root.ringUnsynchronised = true) ∧
      (atEnd.seq.runState = .halted ∧ atEnd.root.originOutstanding = false ∧ atEnd.root.ringUnsynchronised = false ∧
        atEnd.seq.step = 2 ^ 48 - 1) ∧
      (s.seq.step ≠ 2 ^ 48 - 1 ∧ s.root.outstanding.length < 32 ∧ ({ frameTo 0 with value := 1 } : ServiceFrame).value ≠ 0) ∧
      32 ≤ (awaiting s (List.replicate 32 (listed 0 0 0 false))).root.outstanding.length ∧
      (rootPart .run).seq.runState = .run := by decide
theorem witness_PauseClearBreakSwapEnumerate :
    (rootPart .run).TakesAlone (frameTo 0) ∧ (rootPart .run).seq.runState = .run ∧ (rootPart .broken).seq.runState = .broken ∧
      ((rootPart .stranded).seq.runState ≠ .cold ∧ (rootPart .stranded).seq.runState ≠ .idle ∧
        (rootPart .stranded).plan.announced = none ∧ (rootPart .stranded).root.rootGrant ≠ 2 ^ 48 - 1) ∧
      (rootPart .idle).seq.runState = .idle ∧ (rootPart .idle).handler.enumerationOutstanding = false := by decide
theorem witness_RootCommandsByState :
    (frameTo 0).destination ≠ 63 ∧ (rootPart .idle).seq.role = .root ∧ (∀ state ∈ [RunState.idle, .ready, .run, .halting, .halted,
      .broken, .stranded], (rootPart state).seq.runState = state ∧ (rootPart state).seq.runState ≠ .cold) ∧
      (let s := rootPart .ready
       (s.setRoot { s.root with originOutstanding := true }).root.originOutstanding = true ∧
         (s.setPlan { s.plan with announced := some { stage := 1, step := 1 } }).plan.announced ≠ none ∧
         (counted s 5 (2 ^ 48 - 1)).root.rootGrant = 2 ^ 48 - 1) ∧
      enumerating.handler.enumerationOutstanding = true ∧ (rootPart .halting).TakesAlone (frameTo 0) := by decide
theorem witness_OriginAndResetPart :
    (rootPart .stranded).TakesAlone (frameTo 0) ∧ (rootPart .stranded).root.originOutstanding = false ∧
      (pendingAt (rootPart .ready) 4).plan.pendingActivation = some { stage := 1, step := 4 } ∧
      (rootPart .ready).plan.pendingActivation = none ∧ (follower .run).TakesAlone (frameTo 5) ∧
      (rootPart .idle).TakesAlone (frameTo 0) ∧ (rootPart .ready).seq.runState ≠ .idle := by decide

/-- A write that each record takes, at the top of a field's range. -/
theorem witness_WriteRanges :
    ((TrackRecord.default.write 2 4095).isSome = true ∧ (LaneRecord.default.write 2 15).isSome = true ∧
      (Header.default.write 1 64).isSome = true ∧ (CellConfig.default.write 3 255).isSome = true ∧
      (CellConfig.default.write 15 1).isSome = true ∧ (EventEntry.default.write 5 65535).isSome = true ∧
      (EventEntry.default.write 10 65535).isSome = true) ∧
      ((follower .ready).writeField .mask 0 0 3).isSome = true ∧ ((follower .ready).writeField .gate 0 0 255).isSome = true ∧
      (TableName.source.writes 34 2 = true ∧ ((follower .ready).writeField .source 34 2 3).isSome = true) := by decide

end Sys2Proof.Tests
end

section
/-! SUPPORT. What a command can do, said once: the 44 rows by the kind of event they bring (R4 to R178). -/

namespace Sys2Proof.Machine

/-- What the row `c` does to the part in state `s`, one constructor for each kind of event. -/
inductive Effect (s : State) : Instr → State → Prop
  | reset {c} (cause level) (hc : c = .powerOn ∨ c = .pinReset) : Effect s c (s.hardwareReset cause level)
  | release : Effect s .resetNRelease (s.setSeq { s.seq with resetN := true })
  | leave (strap) (h : s.seq.settles = true) : Effect s (.settleTimerExpiry strap) (s.leaveCold strap)
  | nothing (c) : Effect s c s
  | loss (h : s.seq.referencePresent = true) : Effect s .referenceLoss s.loseReference
  | return_ : Effect s .referenceReturn
      ((s.setSeq { s.seq with referencePresent := true }).setClock { s.clock with sinceEdge := 0 })
  | strobe (watch order) (h : s.seq.strobes = true) : Effect s (.paceStrobe watch order) (s.strobe watch order)
  | deferred (h : s.deferredEmissionReady = true) : Effect s .deferredEmission s.emitDeferred
  | watchdog (h : s.watchdogOverdue = true) : Effect s .beatWatchdogExpiry s.expireWatchdog
  | returnTimeout (h : s.returnOverdue = true) : Effect s .returnTimeout s.returnTimedOut
  | enumerationTimeout (h : s.handler.enumerationOutstanding = true) : Effect s .enumerationTimeout s.loseEnumeration
  | enum {c} (f) (hc : c = .enumFrameAtFollower f ∨ c = .enumFrameAtRoot f) : Effect s c (s.onArrival fun t => t.takeEnum f)
  | transmitDone : Effect s .frameTransmitDone (s.setHandler s.handler.transmitDone)
  | service {c} (code f) (hc : serviceRow c = some (code, f)) : Effect s c (s.serviceArrives code f)
  | arrival {c} (bytes) (hc : s.frameCompleted c = some (bytes.take 62)) : Effect s c (s.frameArrives bytes)
  | early {c} (bytes) (hc : s.frameCompleted c = some (bytes.take 62)) : Effect s c (s.frameCompletedEarly bytes)
  | cut {c} (bytes) (hc : s.handler.inReception = true → s.frameCompleted c = some (bytes.take 62)) :
      Effect s c (s.cutByStartMark bytes)

/-- A command of a kind that has an effect in some states only. -/
theorem Effect.ite {s t : State} {c : Instr} (b : Bool) (h : b = true → Effect s c t) : Effect s c (if b then t else s) := by
  cases b
  · exact .nothing c
  · exact h rfl

/-- A row that gives its frame as bytes completes the frame of these bytes. -/
theorem State.frameCompleted_of_frameRow {s : State} {c : Instr} {bytes : List Byte} (hc : c ≠ .startMark)
    (h : frameRow c = some bytes) : s.frameCompleted c = some bytes := by
  simp [frameCompleted, hc, h]

/-- Every row completes, with the effect of its kind (log entry 21). -/
theorem exec_effect (c : Instr) (s : State) : ∃ t, exec c s = .next t ∧ Effect s c t := by
  cases c
  case powerOn => exact ⟨_, rfl, .reset _ _ (.inl rfl)⟩
  case pinReset => exact ⟨_, rfl, .reset _ _ (.inr rfl)⟩
  case resetNRelease => exact ⟨_, rfl, .release⟩
  case settleTimerExpiry strap => exact ⟨_, rfl, .ite _ (.leave strap)⟩
  case referenceLoss => exact ⟨_, rfl, .ite _ .loss⟩
  case referenceReturn => exact ⟨_, rfl, .return_⟩
  case paceStrobe watch order => exact ⟨_, rfl, .ite _ (.strobe watch order)⟩
  case deferredEmission => exact ⟨_, rfl, .ite _ .deferred⟩
  case beatWatchdogExpiry => exact ⟨_, rfl, .ite _ .watchdog⟩
  case returnTimeout => exact ⟨_, rfl, .ite _ .returnTimeout⟩
  case enumerationTimeout => exact ⟨_, rfl, .ite _ .enumerationTimeout⟩
  case enumFrameAtFollower f => exact ⟨_, rfl, .enum f (.inl rfl)⟩
  case enumFrameAtRoot f => exact ⟨_, rfl, .enum f (.inr rfl)⟩
  case frameTransmitDone => exact ⟨_, rfl, .transmitDone⟩
  case startMark => exact ⟨_, rfl, .cut s.handler.arrived fun h => by simp [State.frameCompleted, h]⟩
  case beatFrameAtFollower bytes | beatFrameAtRoot bytes =>
    exact ⟨_, rfl, .arrival bytes (State.frameCompleted_of_frameRow (by simp) rfl)⟩
  case frameGapTimeout bytes | frameOverlength bytes =>
    exact ⟨_, rfl, .early bytes (State.frameCompleted_of_frameRow (by simp) rfl)⟩
  case startMarkCut bytes => exact ⟨_, rfl, .cut bytes fun _ => State.frameCompleted_of_frameRow (by simp) rfl⟩
  all_goals exact ⟨_, rfl, .service _ _ rfl⟩

/-- The effect of a command, read from its outcome. -/
theorem effect_of_exec {c : Instr} {s t : State} (h : exec c s = .next t) : Effect s c t := by
  obtain ⟨u, hu, he⟩ := exec_effect c s
  rw [hu] at h
  cases h
  exact he

/-! ### The waiting commands and the tick counter -/

/-- The end of a frame at ring-in leaves the queue and the clocks if the frame's taking does. -/
theorem State.cutByStartMark_frame (s : State) (bytes : List Byte) :
    (s.cutByStartMark bytes).clock = s.clock ∧ (s.cutByStartMark bytes).pending = s.pending := by
  simp [cutByStartMark]

/-- No command touches the queue of waiting commands or the model's tick counter (log entry 3). -/
theorem Effect.pending_and_ticks {s t : State} {c : Instr} (h : Effect s c t) :
    t.pending = s.pending ∧ t.clock.ticks = s.clock.ticks := by
  cases h
  case reset => exact ⟨rfl, rfl⟩
  case loss => unfold State.loseReference; dsimp only; split <;> simp
  case watchdog => unfold State.expireWatchdog; dsimp only; split <;> simp
  case enum f _ =>
    obtain ⟨hclock, hpending⟩ := s.onArrival_frame (fun t => t.takeEnum f) fun t => by simp
    exact ⟨hpending, by rw [hclock]⟩
  case cut bytes _ =>
    obtain ⟨hclock, hpending⟩ := s.cutByStartMark_frame bytes
    exact ⟨hpending, by rw [hclock]⟩
  all_goals simp [State.leaveCold]

/-! ### Commands whose event cannot occur -/

/-- No strobe is issued in COLD or without the reference (R3). -/
theorem Sequencer.strobes_eq_false {q : Sequencer} (h : q.runState = .cold ∨ q.referencePresent = false) :
    q.strobes = false := by
  rcases h with h | h <;> simp [strobes, h]

/-- A deferred emission needs a strobe at a root in a numbered state, one due, and room in the list (R130). -/
theorem State.deferredEmissionReady_eq_true {s : State} :
    s.deferredEmissionReady = true ↔
      s.seq.strobes = true ∧ s.seq.role = .root ∧ s.seq.runState.numbered = true ∧ s.root.emissionDue = true ∧
        s.root.outstanding.length < 32 := by
  simp [deferredEmissionReady, RootTimebase.hasRoom, and_assoc]

/-- Settles O2: `exec_effect` gives each command an effect, whose kind shows the frame; the last part reads the guard of each row. -/
theorem everyCommandCompletes : Obligations.EveryCommandCompletes := by
  refine ⟨fun c s => ?_, fun c s t h => (effect_of_exec h).pending_and_ticks, fun s => ?_⟩
  · obtain ⟨t, ht, -⟩ := exec_effect c s
    exact ⟨t, ht⟩
  · refine ⟨fun h watch order => ?_, fun h strap => ?_, fun h => ?_, fun h => ?_, fun h => ?_, fun h => ?_, fun h => ?_⟩
    · simp [exec, execPaceStrobe, Sequencer.strobes_eq_false h]
    · have hs : s.seq.settles = false := by rcases h with h | h | h <;> simp [Sequencer.settles, h]
      simp [exec, execSettleTimerExpiry, hs]
    · simp [exec, execReferenceLoss, h]
    · have hw : s.watchdogOverdue = false := by rcases h with h | h <;> simp [State.watchdogOverdue, h]
      simp [exec, execBeatWatchdogExpiry, hw]
    · simp [exec, execReturnTimeout, State.returnOverdue, h]
    · simp [exec, execEnumerationTimeout, h]
    · have hd : ¬ s.deferredEmissionReady = true := by
        rw [State.deferredEmissionReady_eq_true]
        rintro ⟨hstrobes, hrole, hnumbered, hdue, hroom⟩
        rcases h with h | h | h | h | h
        · simp [Sequencer.strobes_eq_false h] at hstrobes
        · simp [h] at hrole
        · simp [h, RunState.numbered] at hnumbered
        · simp [h] at hdue
        · omega
      simp [exec, execDeferredEmission, hd]

end Sys2Proof.Machine
end

section
/-! SUPPORT. What an event leaves lawful: one relation between the state before and after an event, kept by every operation that
neither takes a step nor fixes the role, and built up operation by operation. -/

namespace Sys2Proof.Machine

/-! ### The link state -/

/-- What the laws read of the frame handler: both ports and the ring position. -/
def FrameHandler.links (h : FrameHandler) : Bool × Bool × Option (Fin 63) := (h.ringIn, h.ringOut, h.position)

theorem FrameHandler.links_eq_iff {h k : FrameHandler} :
    h.links = k.links ↔ h.ringIn = k.ringIn ∧ h.ringOut = k.ringOut ∧ h.position = k.position := by
  simp [links]

@[simp] theorem FrameHandler.hand_links (h : FrameHandler) (frame : List Byte) : (h.hand frame).links = h.links := by
  unfold hand; (repeat' split) <;> rfl

@[simp] theorem FrameHandler.hand_ringOut (h : FrameHandler) (frame : List Byte) : (h.hand frame).ringOut = h.ringOut := by
  unfold hand; (repeat' split) <;> rfl

@[simp] theorem FrameHandler.hand_position (h : FrameHandler) (frame : List Byte) : (h.hand frame).position = h.position := by
  unfold hand; (repeat' split) <;> rfl

@[simp] theorem FrameHandler.transmitDone_links (h : FrameHandler) : h.transmitDone.links = h.links := by
  unfold transmitDone; split <;> rfl

@[simp] theorem RootTimebase.notify_rootGrant (r : RootTimebase) (n : LoggedRequest) :
    (r.notify n).rootGrant = r.rootGrant := by
  unfold notify; split <;> rfl

/-! ### The relation -/

/-- The laws of the grant and the position, the role and the ports pass from `s` to `t`, COLD is not entered, and a follower's timebase
is left alone. -/
structure State.Keeps (s t : State) : Prop where
  role : t.seq.role = s.seq.role
  cold : t.seq.runState = .cold → s.seq.runState = .cold
  ringIn : t.handler.ringIn = s.handler.ringIn
  ringOut : t.handler.ringOut = s.handler.ringOut
  root : s.seq.role = .follower → t.root = s.root
  position : s.PositionLaw → t.PositionLaw
  grant : s.GrantLaw → t.GrantLaw

/-- Besides, C stays and G does not fall, unless `restart` holds, where C can also restart from 0. -/
structure State.Carries (restart : Prop) (s t : State) : Prop extends s.Keeps t where
  counts : s.GrantLaw → t.seq.step = s.seq.step ∧ s.seq.grant ≤ t.seq.grant ∨ restart ∧ t.seq.step = 0

namespace State

variable {s t u : State} {R : Prop}

theorem Keeps.trans (h : s.Keeps t) (k : t.Keeps u) : s.Keeps u where
  role := k.role.trans h.role
  cold := h.cold ∘ k.cold
  ringIn := k.ringIn.trans h.ringIn
  ringOut := k.ringOut.trans h.ringOut
  root hf := (k.root (h.role.trans hf)).trans (h.root hf)
  position := k.position ∘ h.position
  grant := k.grant ∘ h.grant

theorem Carries.trans (h : s.Carries R t) (k : t.Carries R u) : s.Carries R u where
  toKeeps := h.toKeeps.trans k.toKeeps
  counts hg := by
    have hk := k.counts (h.grant hg)
    have hh := h.counts hg
    grind

theorem Carries.mono {Q : Prop} (h : s.Carries R t) (hQ : R → Q) : s.Carries Q t where
  toKeeps := h.toKeeps
  counts hg := (h.counts hg).imp_right fun ⟨hr, h0⟩ => ⟨hQ hr, h0⟩

/-- After an event at the root comes one that the root makes of its state. -/
theorem Carries.atRoot {op : State → State} (h : s.Carries R t) (hroot : s.seq.role = .root)
    (hop : ∀ t : State, t.seq.role = .root → t.Carries R (op t)) : s.Carries R (op t) :=
  h.trans (hop t (h.role.trans hroot))

theorem Carries.ite {p : Prop} [Decidable p] (ht : p → s.Carries R t) (hu : ¬ p → s.Carries R u) :
    s.Carries R (if p then t else u) := by
  split
  · exact ht ‹_›
  · exact hu ‹_›

/-- At the root, from a halt decision on, F is G (R139): the part of the law of the grant that a change of run state has to meet. -/
def HaltAtGrant (s : State) : Prop :=
  s.seq.role = .root → s.seq.runState = .halting ∨ s.seq.runState = .halted ∨ s.seq.runState = .broken →
    s.seq.haltStep = some s.seq.grant

/-- The law of the position passes on where the position stays and a follower stays in or out of the numbered states. -/
theorem positionLaw_of_links (hrole : t.seq.role = s.seq.role) (hcold : t.seq.runState = .cold → s.seq.runState = .cold)
    (hposition : t.handler.position = s.handler.position)
    (hnumbered : s.seq.role = .follower → t.seq.runState.numbered = s.seq.runState.numbered) (h : s.PositionLaw) :
    t.PositionLaw := by
  obtain ⟨hc, hr, hf⟩ := h
  refine ⟨fun ht => ?_, fun ht hroot => ?_, fun hfollower => ?_⟩
  · rw [hrole, hposition]; exact hc (hcold ht)
  · rw [hrole] at hroot
    rw [hposition]
    exact hr (fun hs => by simp [(hc hs).1] at hroot) hroot
  · rw [hrole] at hfollower
    rw [hposition, hnumbered hfollower]
    exact hf hfollower

/-- An event that leaves C, G and G_root. -/
theorem Carries.of_counts_eq (hrole : t.seq.role = s.seq.role) (hcold : t.seq.runState = .cold → s.seq.runState = .cold)
    (hlinks : t.handler.links = s.handler.links) (hroot : s.seq.role = .follower → t.root = s.root)
    (hnumbered : s.seq.role = .follower → t.seq.runState.numbered = s.seq.runState.numbered)
    (hstep : t.seq.step = s.seq.step) (hgrant : t.seq.grant = s.seq.grant) (hrootGrant : t.root.rootGrant = s.root.rootGrant)
    (hhalt : s.GrantLaw → t.HaltAtGrant) : s.Carries R t := by
  obtain ⟨hin, hout, hposition⟩ := FrameHandler.links_eq_iff.mp hlinks
  refine { role := hrole, cold := hcold, ringIn := hin, ringOut := hout, root := hroot
           position := positionLaw_of_links hrole hcold hposition hnumbered
           grant := fun h => ?_, counts := fun _ => .inl ⟨hstep, hgrant.ge⟩ }
  obtain ⟨hle, hmax, hequal, -, hzero⟩ := id h
  refine ⟨by omega, by omega, ?_, hhalt h, fun ht => ?_⟩
  · rw [hrole, hgrant, hrootGrant]; exact hequal
  · rw [hrole, hgrant, hrootGrant]; exact hzero (hcold ht)

/-- An event that leaves the sequencer, the links and G_root. -/
theorem Carries.of_seq_eq (hseq : t.seq = s.seq) (hlinks : t.handler.links = s.handler.links)
    (hroot : s.seq.role = .follower → t.root = s.root) (hrootGrant : t.root.rootGrant = s.root.rootGrant) :
    s.Carries R t := by
  refine .of_counts_eq ?_ ?_ hlinks hroot ?_ ?_ ?_ hrootGrant fun ⟨_, _, _, hhalt, _⟩ => ?_
  case refine_6 => rw [HaltAtGrant, hseq]; exact hhalt
  case refine_2 => rw [hseq]; exact id
  all_goals simp only [hseq, implies_true]

/-- An event that leaves the sequencer, the links and the root timebase. -/
theorem Carries.of_frame (hseq : t.seq = s.seq) (hroot : t.root = s.root) (hlinks : t.handler.links = s.handler.links) :
    s.Carries R t :=
  .of_seq_eq hseq hlinks (fun _ => hroot) (by rw [hroot])

theorem Carries.refl (s : State) : s.Carries R s := .of_frame rfl rfl rfl

/-- An event that leaves the sequencer and the links, at the root. -/
theorem Carries.of_root (h : s.seq.role = .root) (hseq : t.seq = s.seq) (hlinks : t.handler.links = s.handler.links)
    (hrootGrant : t.root.rootGrant = s.root.rootGrant) : s.Carries R t :=
  .of_seq_eq hseq hlinks (fun hf => by simp [h] at hf) hrootGrant

/-- An event at the root that leaves C, G and G_root, and a run state in which F is G. -/
theorem Carries.of_root_halt (h : s.seq.role = .root) (hrole : t.seq.role = s.seq.role) (hcold : t.seq.runState ≠ .cold)
    (hlinks : t.handler.links = s.handler.links) (hstep : t.seq.step = s.seq.step) (hgrant : t.seq.grant = s.seq.grant)
    (hrootGrant : t.root.rootGrant = s.root.rootGrant) (hhalt : s.GrantLaw → t.HaltAtGrant) : s.Carries R t :=
  .of_counts_eq hrole (fun ht => absurd ht hcold) hlinks (fun hf => by simp [h] at hf) (fun hf => by simp [h] at hf) hstep
    hgrant hrootGrant hhalt

/-- A change of the sequencer that leaves role, run state, C, G and F. -/
theorem Carries.of_setSeq {q : Sequencer} (hrole : q.role = s.seq.role) (hstate : q.runState = s.seq.runState)
    (hstep : q.step = s.seq.step) (hgrant : q.grant = s.seq.grant) (hhalt : q.haltStep = s.seq.haltStep) :
    s.Carries R (s.setSeq q) := by
  refine .of_counts_eq ?_ ?_ ?_ ?_ ?_ ?_ ?_ ?_ fun _ => ?_ <;>
    simp_all only [HaltAtGrant, setSeq_seq, setSeq_handler, setSeq_root, implies_true]

/-- An event that lets C and G restart from 0. -/
theorem Carries.of_restart (hR : R) (hrole : t.seq.role = s.seq.role)
    (hcold : t.seq.runState = .cold → s.seq.runState = .cold)
    (hlinks : t.handler.links = s.handler.links) (hroot : s.seq.role = .follower → t.root = s.root)
    (hnumbered : s.seq.role = .follower → t.seq.runState.numbered = s.seq.runState.numbered)
    (hstep : t.seq.step = 0) (hgrant : t.seq.grant = 0) (hrootGrant : s.seq.role = .root → t.root.rootGrant = 0)
    (hhalt : t.seq.runState ≠ .halting ∧ t.seq.runState ≠ .halted ∧ t.seq.runState ≠ .broken) : s.Carries R t := by
  obtain ⟨hin, hout, hposition⟩ := FrameHandler.links_eq_iff.mp hlinks
  refine { role := hrole, cold := hcold, ringIn := hin, ringOut := hout, root := hroot
           position := positionLaw_of_links hrole hcold hposition hnumbered
           grant := fun h => ?_, counts := fun _ => .inr ⟨hR, hstep⟩ }
  obtain ⟨-, -, -, -, hzero⟩ := h
  refine ⟨by omega, by rw [hgrant]; exact Nat.zero_le _, fun hr => ?_, fun _ ht => ?_, fun ht => ?_⟩
  · rw [hrootGrant (hrole ▸ hr), hgrant]
  · simp [hhalt] at ht
  · obtain ⟨-, h0, hf⟩ := hzero (hcold ht)
    exact ⟨hgrant, by rw [hroot hf, h0], hrole.trans hf⟩

/-! ### Operations of the root timebase -/

variable (s)

theorem decideHalt_carries (h : s.seq.role = .root) (r : RequestRecord) : s.Carries R (s.decideHalt r) := by
  refine .of_root_halt h rfl (by simp [decideHalt]) rfl rfl rfl rfl fun ⟨_, _, hequal, _, _⟩ _ _ => ?_
  simp [decideHalt, hequal h]

theorem escalate_carries (h : s.seq.role = .root)
    (hstate : s.seq.runState = .halting ∨ s.seq.runState = .halted ∨ s.seq.runState = .broken) : s.Carries R s.escalate := by
  refine .of_root_halt h rfl ?_ rfl rfl rfl rfl fun ⟨_, _, _, hhalt, _⟩ _ _ => hhalt h hstate
  rcases hstate with h | h | h <;> simp [escalate, h]

theorem addSecondary_carries (h : s.seq.role = .root) (r : RequestRecord)
    (hstate : s.seq.runState = .halting ∨ s.seq.runState = .halted ∨ s.seq.runState = .broken) :
    s.Carries R (s.addSecondary r) := by
  have joined (n : LoggedRequest) : s.Carries R (s.setRoot { s.root with haltRecord := s.root.haltRecord.append n }) :=
    .of_root h rfl rfl rfl
  exact .ite (fun _ => (joined _).trans (escalate_carries (s.setRoot _) h hstate)) fun _ => joined _

theorem addNotice_carries (h : s.seq.role = .root) (r : RequestRecord) (late : Bool) : s.Carries R (s.addNotice r late) :=
  .of_root h rfl rfl (by simp [addNotice])

theorem processRecord_carries (h : s.seq.role = .root) (r : RequestRecord) : s.Carries R (s.processRecord r) := by
  unfold processRecord
  split
  case h_1 => exact s.addNotice_carries h r false
  case h_2 | h_3 => exact s.decideHalt_carries h r
  case h_4 | h_5 | h_6 | h_7 | h_8 | h_9 => exact s.addSecondary_carries h r (by simp [*])
  case h_10 | h_11 | h_12 | h_13 => exact s.addNotice_carries h r true
  all_goals exact .refl s

theorem takeOwnRequest_carries (h : s.seq.role = .root) : s.Carries R s.takeOwnRequest := by
  unfold takeOwnRequest
  split
  · exact .refl s
  · exact .atRoot (op := fun t => t.processRecord _) (.of_frame rfl rfl rfl) h fun t ht => t.processRecord_carries ht _

/-- The candidate grant is at most 2^48−1 (R132). -/
theorem candidateGrant_le : s.candidateGrant ≤ maxStep := Nat.min_le_right _ _

theorem raiseGrant_carries (h : s.seq.role = .root) (hstate : s.seq.runState = .run) : s.Carries R s.raiseGrant where
  role := rfl
  cold := id
  ringIn := rfl
  ringOut := rfl
  root hf := by simp [h] at hf
  position := id
  grant := fun ⟨hle, hmax, hequal, _, _⟩ => by
    have := hequal h
    have := s.candidateGrant_le
    refine ⟨?_, ?_, fun _ => rfl, fun _ ht => ?_, fun ht => ?_⟩
    · simp only [raiseGrant, setSeq_seq]; omega
    · simp only [raiseGrant, setSeq_seq]; omega
    · simp [raiseGrant, hstate] at ht
    · simp [raiseGrant, hstate] at ht
  counts := fun ⟨_, _, hequal, _, _⟩ => by
    have := hequal h
    refine .inl ⟨rfl, ?_⟩
    simp only [raiseGrant, setSeq_seq]
    omega

theorem testGrant_carries (h : s.seq.role = .root) : s.Carries R s.testGrant :=
  .ite (fun _ => s.decideHalt_carries h _) fun _ => .ite (fun _ => s.decideHalt_carries h _) fun _ => .refl s

theorem sendBeat_carries (h : s.seq.role = .root) : s.Carries R s.sendBeat :=
  .of_root h rfl (by simp [sendBeat]) rfl

theorem emit_carries (h : s.seq.role = .root) : s.Carries R s.emit :=
  ((s.takeOwnRequest_carries h).atRoot h
    fun t ht => .ite (u := t) (fun hrun => t.raiseGrant_carries ht hrun) fun _ => .refl t).atRoot h
    (fun t ht => .ite (u := t) (fun _ => t.testGrant_carries ht) fun _ => .refl t) |>.atRoot h fun t => t.sendBeat_carries

theorem emitOrDefer_carries (h : s.seq.role = .root) : s.Carries R s.emitOrDefer :=
  .ite (fun _ => s.emit_carries h) fun _ => .of_root h rfl rfl rfl

theorem emitDeferred_carries (h : s.seq.role = .root) : s.Carries R s.emitDeferred :=
  .ite (fun _ => .atRoot (op := emit) (.of_root h rfl rfl rfl) h fun t => t.emit_carries) fun _ => .refl s

theorem cadence_carries (spacing : Nat) : s.Carries R (s.cadence spacing) := by
  refine .ite (fun ⟨h, _⟩ => ?_) fun _ => .refl s
  refine .ite (fun _ => s.emitDeferred_carries h) fun _ => .ite (fun _ => ?_) fun _ => .of_root h rfl rfl rfl
  exact .atRoot (op := emitOrDefer) (.of_root h rfl rfl rfl) h fun t => t.emitOrDefer_carries

/-! ### Returned frames -/

theorem measureRoundTrip_carries (h : s.seq.role = .root) (e : OutstandingBeat) : s.Carries R (s.measureRoundTrip e) :=
  .ite (fun _ => .of_root h rfl rfl rfl) fun _ => .refl s

theorem foldl_processSlot_carries (slots : List (Option RequestRecord)) :
    ∀ s : State, s.seq.role = .root → s.Carries R (slots.foldl processSlot s) := by
  induction slots with
  | nil => exact fun s _ => .refl s
  | cons slot rest ih =>
    intro s h
    cases slot with
    | none => exact ih s h
    | some r => exact (s.processRecord_carries h r).atRoot h ih

theorem takeUnsync_carries (h : s.seq.role = .root) (f : BeatFields) : s.Carries R (s.takeUnsync f) := by
  have noted : s.Carries R (s.setRoot { s.root with ringUnsynchronised := f.unsync }) := .of_root h rfl rfl rfl
  exact .ite (fun _ => noted.atRoot h fun t ht => t.decideHalt_carries ht _) fun _ => noted

/-- A stranded part keeps its sequencer but for the run state (R18). -/
@[simp] theorem enterStranded_seq : s.enterStranded.seq = { s.seq with runState := .stranded } := by
  unfold enterStranded; split <;> rfl

/-- The halt record is closed at a stranded root (R142). -/
theorem enterStranded_root : s.enterStranded.root = if s.seq.role = .root then s.root.closeRecord else s.root := by
  unfold enterStranded; split <;> rfl

theorem enterStranded_carries (hstate : s.seq.runState.numbered = true) : s.Carries R s.enterStranded := by
  refine .of_counts_eq ?_ ?_ ?_ (fun hf => ?_) (fun _ => ?_) ?_ ?_ ?_ fun _ _ ht => ?_
  case refine_4 => simp [enterStranded_root, hf]
  case refine_5 => rw [hstate, enterStranded_seq]; rfl
  case refine_8 => rw [enterStranded_root]; split <;> rfl
  case refine_9 => simp at ht
  all_goals simp

theorem confirm_carries (h : s.seq.role = .root) (f : BeatFields) (haltCurrent : Bool) : s.Carries R (s.confirm f haltCurrent) := by
  refine .ite (fun ⟨hstate, _⟩ => ?_) fun _ => .refl s
  refine .ite (fun _ => s.enterStranded_carries (by simp [hstate, RunState.numbered])) fun _ => .ite (fun _ => ?_) fun _ => .refl s
  refine .of_root_halt h rfl ?_ rfl rfl rfl rfl fun ⟨_, _, _, hhalt, _⟩ _ _ => hhalt h (.inl hstate)
  cases hk : s.seq.haltKind <;> simp [hk, HaltKind.endState]

theorem completeActivation_carries (f : BeatFields) (e : OutstandingBeat) : s.Carries R (s.completeActivation f e) :=
  .ite (fun _ => .of_frame rfl rfl rfl) fun _ => .refl s

theorem endOrigin_carries (h : s.seq.role = .root) (e : OutstandingBeat) : s.Carries R (s.endOrigin e) :=
  .of_root h rfl rfl rfl

theorem processReturn_carries (h : s.seq.role = .root) (f : BeatFields) (e : OutstandingBeat) :
    s.Carries R (s.processReturn f e) := by
  have measured : s.Carries R (s.measureRoundTrip e) := s.measureRoundTrip_carries h e
  have unsync := (measured.atRoot h (foldl_processSlot_carries f.slots.toList)).atRoot h fun t ht => t.takeUnsync_carries ht f
  have confirmed := unsync.atRoot h fun t ht => t.confirm_carries ht f (e.haltCurrent && s.seq.runState != .run)
  exact (confirmed.atRoot h fun t ht => t.endOrigin_carries ht e).trans (completeActivation_carries _ f e)

theorem ringLoss_carries (h : s.seq.role = .root) : s.Carries R s.ringLoss :=
  .ite (fun _ => .refl s) fun _ => s.processRecord_carries h _

theorem takeHead_carries (h : s.seq.role = .root) (f : BeatFields) : s.Carries R (s.takeHead f) := by
  unfold takeHead
  split
  · exact .refl s
  · exact .atRoot (op := fun t => t.processReturn f _) (.of_root h rfl rfl rfl) h fun t ht => t.processReturn_carries ht f _

theorem takeBeat_carries (h : s.seq.role = .root) (bytes : List Byte) : s.Carries R (s.takeBeat bytes) := by
  unfold takeBeat
  dsimp only
  split
  · exact .of_root h rfl rfl rfl
  · exact s.takeHead_carries h _
  · exact .atRoot (op := fun t => t.takeHead _) (.atRoot (op := ringLoss) (.of_root h rfl rfl rfl) h fun t => t.ringLoss_carries) h
      fun t ht => t.takeHead_carries ht _

/-! ### Timeouts -/

/-- A record in HALTING leaves the root there (R138, R140). -/
theorem processRecord_halting (hstate : s.seq.runState = .halting) (r : RequestRecord) :
    (s.processRecord r).seq.runState = .halting := by
  unfold processRecord addSecondary escalate
  simp only [hstate]
  split <;> simp_all
  split <;> simp [hstate]

/-- What a return timeout does to the list and the latch in every run state (R136). -/
def silenced (s : State) : State :=
  (s.setRoot
    { s.root with
      outstanding := [], lostCount := raiseCount s.root.lostCount s.root.outstanding.length }).setSeq
    { s.seq with ringSilent := true }

/-- The return timeout by run state (R136). -/
theorem returnTimedOut_eq :
    s.returnTimedOut =
      match s.seq.runState with
      | .run => s.silenced.processRecord (localCause 43 .brk s.seq.step)
      | .halting => (s.silenced.processRecord (localCause 43 .brk s.seq.step)).enterStranded
      | .cold | .idle | .ready | .halted | .broken | .stranded => s.silenced := rfl

theorem returnTimedOut_carries (h : s.seq.role = .root) : s.Carries R s.returnTimedOut := by
  have silent : s.Carries R s.silenced :=
    .of_counts_eq rfl id rfl (fun hf => by simp [h] at hf) (fun _ => rfl) rfl rfl rfl fun ⟨_, _, _, hhalt, _⟩ => hhalt
  have recorded := silent.atRoot h fun t ht => t.processRecord_carries ht (localCause 43 .brk s.seq.step)
  rw [returnTimedOut_eq]
  split
  case h_1 => exact recorded
  case h_2 hstate =>
    refine recorded.trans (enterStranded_carries _ ?_)
    rw [processRecord_halting s.silenced hstate]
    rfl
  all_goals exact silent

/-- The return timeout expires at the root only (R136). -/
theorem role_of_returnOverdue {s : State} (h : s.returnOverdue = true) : s.seq.role = .root := by
  simp_all [returnOverdue]

theorem loseEnumeration_carries : s.Carries R s.loseEnumeration := .of_frame rfl rfl rfl

theorem expireOverdue_carries : s.Carries R s.expireOverdue := by
  have returned : s.Carries R (if s.returnOverdue then s.returnTimedOut else s) :=
    .ite (fun h => s.returnTimedOut_carries (role_of_returnOverdue h)) fun _ => .refl s
  exact .ite (fun _ => returned.trans (loseEnumeration_carries _)) fun _ => returned

end State
end Sys2Proof.Machine
end

section
/-! SUPPORT. The relation of the laws for origins and resets, steps, what a follower reads, service commands and arrivals. -/

namespace Sys2Proof.Machine

/-! ### Sequencer of an origin and of an in-band reset -/

/-- The sequencer at origin, field by field (R19). -/
theorem Sequencer.atOrigin_eq (q : Sequencer) (number now timeout : Nat) :
    q.atOrigin number now timeout =
      { q with
        step := 0, grant := 0, haltStep := none, haltKind := .pause, originNumber := some number, runState := .ready
        ringSilent := false, referenceLost := false
        watchdog := if q.role = .follower then .running now timeout else q.watchdog } := by
  unfold atOrigin restartFollowerWatchdog
  by_cases h : q.role = .follower <;> simp [h, restartWatchdog]

/-- The sequencer at an in-band reset, field by field (R22). -/
theorem Sequencer.atReset_eq (q : Sequencer) (now timeout : Nat) :
    q.atReset now timeout =
      { q with
        step := 0, grant := 0, haltStep := none, haltKind := .pause
        runState := if q.runState.numbered then .ready else q.runState
        originNumber := if q.role = .follower then none else q.originNumber
        ringSilent := false, referenceLost := false
        watchdog := if q.role = .follower then .running now timeout else q.watchdog } := by
  unfold atReset restartFollowerWatchdog
  by_cases h : q.role = .follower <;> simp [h, restartWatchdog]

namespace State

variable (s : State) {R : Prop}

@[simp] theorem performOrigin_seq (number : Nat) :
    (s.performOrigin number).seq = s.seq.atOrigin number s.clock.time s.plan.live.header.beatTimeout := by
  simp [performOrigin]

@[simp] theorem resetBlocks_seq :
    s.resetBlocks.seq = s.seq.atReset s.clock.time s.plan.live.header.beatTimeout := by
  simp [resetBlocks]

/-! ### Origins and in-band resets -/

/-- The announcement of an origin, before a timeout expires (R148, R160). -/
def announced (s : State) : State :=
  let t := s.performOrigin (nextOrigin s.root.announcedOrigin)
  (t.setRoot
    { t.root.closeRecord.clearCurrent with
      announcedOrigin := some (nextOrigin s.root.announcedOrigin), rootGrant := 0, target := none
      originOutstanding := true }).setPlan t.plan.announceAtOrigin

theorem announceOrigin_eq :
    s.announceOrigin = if s.plan.pendingActivation.isSome then s.announced.expireOverdue else s.announced := rfl

/-- The root announces an origin, whatever its timebase held (R148). -/
theorem announceOrigin_carries (hR : R) (h : s.seq.role = .root) (x : RootTimebase) :
    s.Carries R (s.setRoot x).announceOrigin := by
  have told : s.Carries R (s.setRoot x).announced :=
    .of_restart hR (by simp [announced, Sequencer.atOrigin_eq]) (by simp [announced, Sequencer.atOrigin_eq])
      (by simp [announced]) (fun hf => by simp [h] at hf) (fun hf => by simp [h] at hf)
      (by simp [announced, Sequencer.atOrigin_eq]) (by simp [announced, Sequencer.atOrigin_eq]) (by simp [announced])
      (by simp [announced, Sequencer.atOrigin_eq])
  exact .ite (fun _ => told.trans (expireOverdue_carries _)) fun _ => told

/-- An in-band reset without an origin (R22, R171), with the timebase as it leaves it. -/
theorem resetBlocks_carries (hR : R) (x : RootTimebase) (hfollower : s.seq.role = .follower → x = s.root)
    (hroot : s.seq.role = .root → x.rootGrant = 0) : s.Carries R (s.setRoot x).resetBlocks := by
  refine .of_restart hR ?_ (fun h => ?_) ?_ ?_ (fun _ => ?_) ?_ ?_ ?_ ?_ <;>
    simp only [resetBlocks_frame, resetBlocks_seq, Sequencer.atReset_eq, setRoot_seq, setRoot_root, setRoot_handler] at *
  case refine_2 => cases hs : s.seq.runState <;> simp_all [RunState.numbered]
  case refine_4 => exact hfollower
  case refine_5 => cases s.seq.runState <;> simp [RunState.numbered]
  case refine_8 => exact hroot
  case refine_9 => cases s.seq.runState <;> simp [RunState.numbered]

theorem resetPart_carries (hR : R) : s.Carries R s.resetPart := by
  unfold resetPart
  split
  case h_1 h => exact s.resetBlocks_carries hR s.root (fun _ => rfl) fun hr => by simp [h] at hr
  case h_2 h =>
    exact .ite (fun _ => s.announceOrigin_carries hR h _) fun _ =>
      s.resetBlocks_carries hR _ (fun hf => by simp [h] at hf) fun _ => rfl

theorem performOrigin_carries (hR : R) (h : s.seq.role = .follower) (hstate : s.seq.runState.numbered = true) (number : Nat) :
    s.Carries R (s.performOrigin number) := by
  refine .of_restart hR ?_ ?_ ?_ (fun _ => ?_) (fun _ => ?_) ?_ ?_ (fun hr => ?_) ?_ <;>
    simp_all [Sequencer.atOrigin_eq, RunState.numbered]

/-! ### Steps (R4 to R6) -/

@[simp] theorem computeStep_seq (watch : BitVec 16) (step : Nat) : (s.computeStep watch step).seq = { s.seq with step } := by
  simp [computeStep]

/-- The step itself, before a timeout expires (R5). -/
theorem takeStep_eq (watch : BitVec 16) :
    s.takeStep watch =
      if s.plan.isDueAt (s.seq.step + 1) then
        ((s.applyDue (s.seq.step + 1)).computeStep watch (s.seq.step + 1)).expireOverdue
      else (s.applyDue (s.seq.step + 1)).computeStep watch (s.seq.step + 1) := rfl

/-- An event that takes step C+1: the laws pass on, C is one higher, and G does not fall. -/
structure Steps (s t : State) : Prop extends s.Keeps t where
  counts : s.GrantLaw → t.seq.step = s.seq.step + 1 ∧ s.seq.grant ≤ t.seq.grant

variable {s} in
theorem Steps.trans {t u : State} (h : s.Steps t) (k : t.Carries False u) : s.Steps u where
  toKeeps := h.toKeeps.trans k.toKeeps
  counts hg := by
    have hk := k.counts (h.grant hg)
    have hh := h.counts hg
    grind

variable {s} in
theorem Carries.thenSteps {t u : State} (h : s.Carries False t) (k : t.Steps u) : s.Steps u where
  toKeeps := h.toKeeps.trans k.toKeeps
  counts hg := by
    have hk := k.counts (h.grant hg)
    have hh := h.counts hg
    grind

theorem takeStep_steps (h : s.seq.step < s.seq.grant) (watch : BitVec 16) : s.Steps (s.takeStep watch) := by
  have computed : s.Steps ((s.applyDue (s.seq.step + 1)).computeStep watch (s.seq.step + 1)) :=
    { role := by simp
      cold := by simp
      ringIn := by simp
      ringOut := by simp
      root := by simp
      position := positionLaw_of_links (by simp) (by simp) (by simp) (by simp)
      grant := fun ⟨_, hmax, hequal, hhalt, hzero⟩ => by
        refine ⟨?_, ?_, ?_, ?_, ?_⟩ <;> simp <;> assumption
      counts := by simp }
  rw [takeStep_eq]
  split
  · exact computed.trans (expireOverdue_carries _)
  · exact computed

/-- At a follower no timeout of the root expires. -/
theorem expireOverdue_of_follower {s : State} (h : s.seq.role = .follower) : s.expireOverdue = s := by
  simp [expireOverdue, returnOverdue, enumerationOverdue, h]

/-- A follower's step changes nothing of its sequencer but C. -/
theorem takeStep_seq_of_follower {s : State} (h : s.seq.role = .follower) (watch : BitVec 16) :
    (s.takeStep watch).seq = { s.seq with step := s.seq.step + 1 } := by
  rw [takeStep_eq, expireOverdue_of_follower (by simpa using h)]
  simp

theorem endHalting_carries (hnumbered : s.seq.role = .follower → s.seq.runState.numbered = true) :
    s.Carries R s.endHalting := by
  refine .ite (fun ⟨hrole, _⟩ => ?_) fun _ => .refl s
  have hroot : s.seq.role ≠ .root := by simp [hrole]
  refine .of_counts_eq rfl (fun ht => ?_) rfl (fun _ => rfl) (fun _ => ?_) rfl rfl rfl fun _ hr => absurd hr hroot
  · cases hk : s.seq.haltKind <;> simp [hk, HaltKind.endState] at ht
  · rw [hnumbered hrole, setSeq_seq]
    cases s.seq.haltKind <;> rfl

theorem underrun_carries : s.Carries R s.underrun :=
  .of_counts_eq rfl id rfl (fun _ => rfl) (fun _ => rfl) rfl rfl rfl fun ⟨_, _, _, hhalt, _⟩ => hhalt

/-- A strobe takes a step or leaves C as it is. -/
theorem actOnStrobe_carries (watch : BitVec 16) :
    s.Steps (s.actOnStrobe watch) ∨ s.Carries False (s.actOnStrobe watch) := by
  unfold actOnStrobe
  split
  case h_1 =>
    split
    · exact .inl (s.takeStep_steps ‹_› watch)
    · exact .inr s.underrun_carries
  case h_2 hstate =>
    split
    · refine .inl ((s.takeStep_steps (‹_ ∧ _›).1 watch).trans (endHalting_carries _ fun hf => ?_))
      have hrole : s.seq.role = .follower := (s.takeStep_steps (‹_ ∧ _›).1 watch).role ▸ hf
      rw [takeStep_seq_of_follower hrole, hstate]
      rfl
    · exact .inr (.refl s)
  all_goals exact .inr (.refl s)

/-- The strobe count restarts at a strobe (R3). -/
def struck (s : State) : State := s.setSeq { s.seq with strobeCount := 0 }

/-- The pace in force is loaded from the live header (R3, R159). -/
def paceLoaded (s : State) : State := s.setSeq { s.seq with paceInForce := s.plan.live.header.pace }

theorem strobe_stepFirst (watch : BitVec 16) :
    s.strobe watch .stepFirst = ((s.struck.actOnStrobe watch).cadence s.plan.live.header.spacing).paceLoaded := rfl

theorem strobe_emissionFirst (watch : BitVec 16) :
    s.strobe watch .emissionFirst = ((s.struck.cadence s.plan.live.header.spacing).actOnStrobe watch).paceLoaded := rfl

theorem struck_carries : s.Carries R s.struck := .of_setSeq rfl rfl rfl rfl rfl

theorem paceLoaded_carries : s.Carries R s.paceLoaded := .of_setSeq rfl rfl rfl rfl rfl

theorem strobe_carries (watch : BitVec 16) (order : StrobeOrder) :
    s.Steps (s.strobe watch order) ∨ s.Carries False (s.strobe watch order) := by
  cases order
  case stepFirst =>
    have loaded (t : State) (k : Nat) : t.Carries False (t.cadence k).paceLoaded :=
      (t.cadence_carries k).trans (paceLoaded_carries _)
    rw [strobe_stepFirst]
    rcases s.struck.actOnStrobe_carries watch with acted | acted
    · exact .inl ((s.struck_carries.thenSteps acted).trans (loaded _ _))
    · exact .inr ((s.struck_carries.trans acted).trans (loaded _ _))
  case emissionFirst =>
    have emitted : s.Carries False (s.struck.cadence s.plan.live.header.spacing) :=
      s.struck_carries.trans (cadence_carries _ _)
    rw [strobe_emissionFirst]
    rcases (s.struck.cadence s.plan.live.header.spacing).actOnStrobe_carries watch with acted | acted
    · exact .inl ((emitted.thenSteps acted).trans (paceLoaded_carries _))
    · exact .inr ((emitted.trans acted).trans (paceLoaded_carries _))

end State

/-! ### What a follower reads (R10 to R14) -/

/-- A field of `k` bytes is below 256^k. -/
theorem numberOf_lt (bytes : List Byte) : numberOf bytes < 256 ^ bytes.length := by
  induction bytes using List.reverseRecOn with
  | nil => simp [numberOf]
  | append_singleton front b ih =>
    have hb := b.isLt
    simp only [numberOf, List.foldl_append, List.foldl_cons, List.foldl_nil, List.length_append, List.length_singleton,
      Nat.pow_succ] at ih ⊢
    omega

/-- The grant that a beat frame carries is a step number (R116). -/
theorem readBeat_grant_le (bytes : List Byte) : (readBeat bytes).grant ≤ maxStep := by
  have hlt : fieldAt bytes 11 6 < 256 ^ ((bytes.drop 11).take 6).length := numberOf_lt _
  have hle : 256 ^ ((bytes.drop 11).take 6).length ≤ 256 ^ 6 := Nat.pow_le_pow_right (by decide) (by simp)
  simp only [readBeat, maxStep]
  omega

/-- What the laws ask of a change that a frame's mode makes: role, C and G stay, in a numbered state. -/
structure Sequencer.Turns (q r : Sequencer) : Prop where
  role : r.role = q.role
  step : r.step = q.step
  grant : r.grant = q.grant
  numbered : r.runState.numbered = true

namespace Sequencer

variable {q : Sequencer}

theorem readGrant_turns (h : q.runState.numbered = true) (f : BeatFields) :
    Turns { q with grant := max q.grant f.grant } (q.readGrant f) := by
  unfold readGrant; dsimp only; split <;> exact ⟨rfl, rfl, rfl, h⟩

theorem readReady_turns (h : q.runState.numbered = true) : q.Turns q.readReady := by
  unfold readReady; split <;> exact ⟨rfl, rfl, rfl, by first | exact h | rfl⟩

theorem readRun_turns (h : q.runState.numbered = true) : q.Turns q.readRun := by
  unfold readRun
  split
  case h_1 => split <;> exact ⟨rfl, rfl, rfl, by first | exact h | rfl⟩
  all_goals exact ⟨rfl, rfl, rfl, by first | exact h | rfl⟩

theorem readHalt_turns (haltStep : Nat) : q.Turns (q.readHalt haltStep) := by
  unfold readHalt
  split
  · exact ⟨rfl, rfl, rfl, rfl⟩
  · split
    · exact ⟨rfl, rfl, rfl, by cases q.haltKind <;> rfl⟩
    · exact ⟨rfl, rfl, rfl, rfl⟩

theorem Turns.trans {p q r : Sequencer} (h : p.Turns q) (k : q.Turns r) : p.Turns r :=
  ⟨k.role.trans h.role, k.step.trans h.step, k.grant.trans h.grant, k.numbered⟩

/-- Reading the grant, halt and mode fields leaves the sequencer, or turns it with G at the greater of G and the frame's (R10, R11). -/
theorem readFields_turns (f : BeatFields) :
    q.readFields f = q ∨ q.runState.numbered = true ∧ Turns { q with grant := max q.grant f.grant } (q.readFields f) := by
  unfold readFields
  split
  · obtain ⟨hreads, -⟩ := ‹_ ∧ _›
    have hnumbered : q.runState.numbered = true := by cases h : q.runState <;> simp_all [RunState.readsGrant, RunState.numbered]
    have given := readGrant_turns hnumbered f
    refine .inr ⟨hnumbered, ?_⟩
    cases f.mode
    · exact given.trans (readReady_turns given.numbered)
    · exact given.trans (readRun_turns given.numbered)
    · exact given.trans (readHalt_turns _)
  · exact .inl rfl

end Sequencer

namespace State

variable (s : State) {R : Prop}

/-- A follower reads the grant, halt and mode fields (R10). -/
theorem readFields_carries (h : s.seq.role = .follower) (bytes : List Byte) :
    s.Carries R (s.setSeq (s.seq.readFields (readBeat bytes))) := by
  have hframe := readBeat_grant_le bytes
  rcases s.seq.readFields_turns (readBeat bytes) with hsame | ⟨hnumbered, hrole, hstep, hgrant, hturned⟩
  · rw [hsame]; exact .refl s
  · have hcold (q : Sequencer) (hq : q.runState.numbered = true) : q.runState ≠ .cold := fun hc => by
      simp [hc, RunState.numbered] at hq
    exact
      { role := hrole
        cold := fun ht => absurd ht (hcold _ hturned)
        ringIn := rfl
        ringOut := rfl
        root := fun _ => rfl
        position := positionLaw_of_links hrole (fun ht => absurd ht (hcold _ hturned)) rfl fun _ => by simp [hturned, hnumbered]
        grant := fun ⟨hle, hmax, _, _, _⟩ => by
          have hfollower : (s.seq.readFields (readBeat bytes)).role ≠ .root := by simp [hrole, h]
          refine ⟨?_, ?_, fun hr => absurd hr hfollower, fun hr => absurd hr hfollower, fun ht => absurd ht (hcold _ hturned)⟩
          · simp only [setSeq_seq, hstep, hgrant]; omega
          · simp only [setSeq_seq, hgrant]; omega
        counts := fun _ => .inl ⟨hstep, by simp [hgrant]⟩ }

/-- The watchdog restarted by a good beat frame (R17). -/
def watchdogRestarted (s : State) : State :=
  s.setSeq (s.seq.restartWatchdog s.clock.time s.plan.live.header.beatTimeout)

/-- After the watchdog the origin fields of a beat frame are read (R10). -/
def originRead (s : State) (f : BeatFields) : State :=
  if s.seq.mustOrigin f then s.watchdogRestarted.performOrigin f.originNumber else s.watchdogRestarted

theorem readBeatFields_eq (f : BeatFields) :
    s.readBeatFields f = (s.originRead f).setSeq ((s.originRead f).seq.readFields f) := rfl

theorem watchdogRestarted_carries : s.Carries R s.watchdogRestarted := .of_setSeq rfl rfl rfl rfl rfl

theorem originRead_carries (h : s.seq.role = .follower) (f : BeatFields) :
    s.Carries (s.seq.mustOrigin f = true) (s.originRead f) := by
  refine .ite (fun ho => s.watchdogRestarted_carries.trans (performOrigin_carries s.watchdogRestarted ho h ?_ _)) fun _ =>
    s.watchdogRestarted_carries
  have hnumbered : s.seq.runState.numbered = true := by simp_all [Sequencer.mustOrigin]
  exact hnumbered

theorem readBeatFields_carries (h : s.seq.role = .follower) (bytes : List Byte) :
    s.Carries (s.seq.mustOrigin (readBeat bytes) = true) (s.readBeatFields (readBeat bytes)) := by
  have synced := s.originRead_carries h (readBeat bytes)
  exact synced.trans (readFields_carries _ (synced.role.trans h) bytes)

@[simp] theorem placeRequest_seq (bytes : List Byte) : (s.placeRequest bytes).1.seq = s.seq := by
  unfold placeRequest; (repeat' split) <;> rfl

@[simp] theorem placeRequest_root (bytes : List Byte) : (s.placeRequest bytes).1.root = s.root := by
  unfold placeRequest; (repeat' split) <;> rfl

theorem passBeat_carries (h : s.seq.role = .follower) (bytes : List Byte) :
    s.Carries (s.seq.mustOrigin (readBeat bytes) = true) (s.passBeat bytes) :=
  (s.readBeatFields_carries h bytes).trans (.of_frame (by simp [passBeat]) (by simp) (by simp [passBeat]))

/-! ### ENUM frames (R126, R127) -/

theorem takePosition_carries (h : s.seq.role = .follower) (f : EnumFrame) : s.Carries R (s.takePosition f) := by
  have hroot : s.seq.role ≠ .root := by simp [h]
  have hpositive : enumPosition f ≠ 0 := by
    unfold enumPosition; split <;> simp_all [BitVec.toNat_eq]
  unfold takePosition
  split
  case isTrue hleft =>
    exact
      { role := rfl, cold := fun ht => by simp at ht, ringIn := by simp, ringOut := by simp, root := fun _ => rfl
        position := fun _ => ⟨fun ht => by simp at ht, fun _ hr => absurd hr hroot, fun _ => by
          simp [RunState.numbered, Fin.ext_iff, hpositive]⟩
        grant := fun ⟨hle, hmax, _, _, _⟩ =>
          ⟨hle, hmax, fun hr => absurd hr hroot, fun hr => absurd hr hroot, fun ht => by simp at ht⟩
        counts := fun _ => .inl ⟨rfl, le_rfl⟩ }
  case isFalse =>
    exact
      { role := rfl, cold := fun ht => by simp at ht, ringIn := by simp, ringOut := by simp, root := fun _ => rfl
        position := fun _ => ⟨fun ht => by simp at ht, fun _ hr => absurd hr hroot, fun _ => by simp [RunState.numbered]⟩
        grant := fun ⟨hle, hmax, _, _, _⟩ =>
          ⟨hle, hmax, fun hr => absurd hr hroot, fun hr => absurd hr hroot, fun ht => by simp at ht⟩
        counts := fun _ => .inl ⟨rfl, le_rfl⟩ }

theorem discardUnknown_carries : s.Carries R s.discardUnknown := .of_frame rfl rfl rfl

theorem takeEnum_carries (f : EnumFrame) : s.Carries R (s.takeEnum f) := by
  unfold takeEnum
  split
  case h_1 h => exact s.takePosition_carries h f
  case h_2 => exact .ite (fun _ => .of_frame rfl rfl rfl) fun _ => s.discardUnknown_carries

/-! ### Service commands -/

theorem onTable_carries (f : ServiceFrame) {act : TableName → Answer} (h : ∀ t, s.Carries R (act t).state) :
    s.Carries R (s.onTable f act).state := by
  unfold onTable
  split
  · exact .refl s
  · exact h _

theorem atCursor_carries (f : ServiceFrame) {act : TableName → Nat → Answer} (h : ∀ t n, s.Carries R (act t n).state) :
    s.Carries R (s.atCursor f act).state := by
  unfold atCursor Answer.advancing
  dsimp only
  split
  · exact .refl s
  · split
    · exact (h _ _).trans (.of_frame rfl rfl rfl)
    · exact h _ _

theorem writeAt_carries (t : TableName) (index field v : Nat) : s.Carries R (s.writeAt t index field v).state := by
  unfold writeAt refuse accept
  (repeat' split) <;> first
    | exact .refl s
    | skip
  rename_i after hw
  obtain ⟨hseq, hhandler, hroot, -⟩ := s.writeField_frame after t index field v hw
  exact .of_frame hseq hroot (by rw [hhandler])

theorem bitsAt_carries (t : TableName) (index field v : Nat) (change : Vector Bool 8 → Nat → Vector Bool 8)
    (reply : Vector Bool 8 → Nat) : s.Carries R (s.bitsAt t index field v change reply).state := by
  unfold bitsAt refuse accept setBitLevels
  (repeat' split) <;> exact .of_frame rfl rfl rfl

theorem startRun_carries (h : s.seq.role = .root) (target : Option Nat) : s.Carries R (s.startRun target) :=
  .atRoot (op := emitOrDefer)
    (.of_root_halt h rfl (by simp) rfl rfl rfl rfl fun _ _ ht => by simp at ht) h fun t => t.emitOrDefer_carries

theorem tryRun_carries (h : s.seq.role = .root) (target : Option Nat) (reply : Nat) :
    s.Carries R (s.tryRun target reply).state := by
  unfold tryRun
  split
  · exact .refl s
  · exact s.startRun_carries h target

theorem serveRun_carries (h : s.seq.role = .root) : s.Carries R s.serveRun.state := by
  unfold serveRun
  split <;> first | exact s.tryRun_carries h _ _ | exact .refl s

theorem serveRunFor_carries (h : s.seq.role = .root) (f : ServiceFrame) : s.Carries R (s.serveRunFor f).state := by
  unfold serveRunFor
  dsimp only
  split
  · exact .refl s
  · split <;> first | exact s.tryRun_carries h _ _ | exact .of_root h rfl rfl rfl

theorem servePause_carries (h : s.seq.role = .root) : s.Carries R s.servePause.state := by
  unfold servePause
  split
  case h_1 => exact s.processRecord_carries h _
  all_goals exact .refl s

theorem serveClearBreak_carries (h : s.seq.role = .root) : s.Carries R s.serveClearBreak.state := by
  unfold serveClearBreak
  split
  case h_1 hstate =>
    exact .of_root_halt h rfl (by simp [accept, clearBreak]) rfl rfl rfl rfl fun ⟨_, _, _, hhalt, _⟩ _ _ =>
      hhalt h (.inr (.inr hstate))
  all_goals exact .refl s

theorem serveOrigin_carries (hR : R) (h : s.seq.role = .root) : s.Carries R s.serveOrigin.state := by
  unfold serveOrigin
  split <;> try split
  all_goals first | exact .refl s | exact s.announceOrigin_carries hR h s.root

theorem serveSwap_carries : s.Carries R s.serveSwap.state := by
  unfold serveSwap
  (repeat' split) <;> exact .of_frame rfl rfl rfl

theorem serveEnumerate_carries (h : s.seq.role = .root) : s.Carries R s.serveEnumerate.state := by
  unfold serveEnumerate
  (repeat' split) <;> first
    | exact .refl s
    | skip
  all_goals
    refine .of_root_halt h rfl (by simp [accept]) ?_ rfl rfl rfl fun _ _ ht => by simp [accept] at ht
    exact s.handler.hand_links (writtenEnum firstEnumFrame)

/-- A command's own effect: only RESET_PART and ORIGIN let C restart (R22, R148). -/
theorem perform_carries (c : CommandName) (f : ServiceFrame) (h : s.seq.role = .root ∨ s.needsRoot c f = false) :
    s.Carries (c = .resetPart ∨ c = .origin) (s.perform c f).state := by
  cases c <;> simp only [perform]
  case read => exact s.onTable_carries f fun _ => by rw [readAt_state]; exact .refl s
  case write => exact s.onTable_carries f fun _ => s.writeAt_carries _ _ _ _
  case cursor => exact s.onTable_carries f fun _ => by split <;> exact .of_frame rfl rfl rfl
  case readNext => exact s.atCursor_carries f fun _ _ => by rw [readAt_state]; exact .refl s
  case writeNext => exact s.atCursor_carries f fun _ _ => s.writeAt_carries _ _ _ _
  case setBits | clearBits | testSet => exact s.onTable_carries f fun _ => s.bitsAt_carries _ _ _ _ _ _
  case copyLive => unfold serveCopyLive; split <;> exact .of_frame rfl rfl rfl
  case resetPart => exact s.resetPart_carries (by simp)
  case swap => exact s.serveSwap_carries
  all_goals have hroot : s.seq.role = .root := h.resolve_right (by simp [needsRoot, CommandName.rootOnly])
  case takeNotice => unfold serveTakeNotice; split <;> exact .of_root hroot rfl rfl rfl
  case run => exact s.serveRun_carries hroot
  case runFor => exact s.serveRunFor_carries hroot f
  case pause => exact s.servePause_carries hroot
  case clearBreak => exact s.serveClearBreak_carries hroot
  case origin => exact s.serveOrigin_carries (by simp) hroot
  case enumerate => exact s.serveEnumerate_carries hroot

/-- The codes of the two commands that let C restart (R166). -/
theorem restart_code {code : BitVec 8} {c : CommandName} (h : CommandName.ofCode code.toNat = some c)
    (hc : c = .resetPart ∨ c = .origin) : code = 0x0B ∨ code = 0x14 := by
  rcases hc with rfl | rfl <;> unfold CommandName.ofCode at h <;> split at h <;> simp_all [BitVec.toNat_eq]

theorem answer_carries (code : BitVec 8) (f : ServiceFrame) :
    s.Carries (code = 0x0B ∨ code = 0x14) (s.answer code f).state := by
  unfold answer
  split
  · exact .refl s
  · split
    · exact .refl s
    · split
      · exact .refl s
      · refine (s.perform_carries _ f ?_).mono (restart_code ‹_›)
        cases hr : s.seq.role <;> simp_all

theorem takeService_carries (code : BitVec 8) (f : ServiceFrame) :
    s.Carries (code = 0x0B ∨ code = 0x14) (s.takeService code f) :=
  .ite (fun _ => (s.answer_carries code f).trans (.of_frame rfl rfl (by simp))) fun _ => .of_frame rfl rfl (by simp)

/-! ### Frames as bytes -/

/-- A frame lets C restart: a service frame with the code of RESET_PART or ORIGIN, or a beat frame that makes a follower perform
origin. -/
def RestartsAt (s : State) (frame : List Byte) : Prop :=
  frameType frame = some .service ∧ (byteAt frame 3 = 0x0B ∨ byteAt frame 3 = 0x14) ∨
    s.seq.role = .follower ∧ BeatBytes frame ∧ s.seq.mustOrigin (readBeat frame) = true

/-- A good beat frame has 61 bytes (R113). -/
theorem length_of_frameGood {frame : List Byte} (hgood : frameGood frame = true) (hbeat : frameType frame = some .beat) :
    frame.length = 61 := by
  simp_all [frameGood, lengthMeets, FrameType.length]

theorem takeFrame_carries (bytes : List Byte) : s.Carries (s.RestartsAt (bytes.take 62)) (s.takeFrame bytes) := by
  refine .ite (fun hgood => ?_) fun _ => .of_frame rfl rfl rfl
  unfold dispatch
  split
  case h_1 => exact s.discardUnknown_carries
  case h_2 hbeat =>
    refine .ite (fun _ => s.discardUnknown_carries) fun hpossible => ?_
    unfold dispatchBeat
    split
    case h_1 h =>
      exact (s.passBeat_carries h _).mono fun ho =>
        .inr ⟨h, ⟨length_of_frameGood hgood hbeat, hgood, hbeat, by simpa using hpossible⟩, ho⟩
    case h_2 h => exact s.takeBeat_carries h _
  case h_3 hservice => exact (s.takeService_carries _ _).mono fun hcode => .inl ⟨hservice, hcode⟩
  case h_4 => exact s.takeEnum_carries _

/-! ### Arrivals -/

theorem setReception_carries (r : Reception) : s.Carries R (s.setReception r) := .of_frame rfl rfl rfl

theorem onArrival_carries {act : State → State} (h : (s.setReception .between).Carries R (act (s.setReception .between))) :
    s.Carries R (s.onArrival act) :=
  .ite (fun _ => (s.setReception_carries _).trans h) fun _ => s.setReception_carries _

theorem frameCompletedEarly_carries (bytes : List Byte) :
    s.Carries (s.handler.inReception = true ∧ s.RestartsAt (bytes.take 62)) (s.frameCompletedEarly bytes) :=
  .ite (fun hin => (s.setReception_carries _).trans ((takeFrame_carries (s.setReception .ended) bytes).mono fun h => ⟨hin, h⟩))
    fun _ => .refl s

theorem cutByStartMark_carries (bytes : List Byte) :
    s.Carries (s.handler.inReception = true ∧ s.RestartsAt (bytes.take 62)) (s.cutByStartMark bytes) :=
  (s.frameCompletedEarly_carries bytes).trans (.of_frame rfl rfl rfl)

end State
end Sys2Proof.Machine
end

section
/-! SUPPORT. The laws of the device over every command and every tick (R2, R8, R9, R110), and the statements that rest on them. -/

namespace Sys2Proof.Machine

namespace State

variable (s : State) {R : Prop}

/-! ### The reference and the watchdog -/

theorem loseReference_carries : s.Carries R s.loseReference := by
  unfold loseReference
  dsimp only
  split
  case h_1 => exact .of_setSeq rfl rfl rfl rfl rfl
  case h_2 h | h_3 h =>
    exact .trans (t := s.setSeq { s.seq with
        referencePresent := false, strobeCount := 0, referenceLost := true
        referenceLossCount := raiseCount s.seq.referenceLossCount 1 })
      (.of_setSeq rfl rfl rfl rfl rfl) (enterStranded_carries _ (by simp [h, RunState.numbered]))
  all_goals exact .of_setSeq rfl rfl rfl rfl rfl

theorem expireWatchdog_carries : s.Carries R s.expireWatchdog := by
  unfold expireWatchdog
  dsimp only
  split
  case h_1 h | h_2 h =>
    exact .trans (t := s.setSeq { s.seq with watchdog := .expired, silenceCount := raiseCount s.seq.silenceCount 1 })
      (.of_setSeq rfl rfl rfl rfl rfl) (enterStranded_carries _ (by simp [h, RunState.numbered]))
  all_goals exact .of_setSeq rfl rfl rfl rfl rfl

/-! ### Time -/

theorem tick_carries : s.Carries R s.tick := by
  have edge (u : State) : u.Carries R u.referencePeriod := by
    unfold referencePeriod
    dsimp only
    (repeat' split)
    · exact .of_frame rfl rfl rfl
    · exact .of_frame rfl rfl rfl
    all_goals exact .of_counts_eq rfl id rfl (fun _ => rfl) (fun _ => rfl) rfl rfl rfl fun ⟨_, _, _, hhalt, _⟩ => hhalt
  have micro (u : State) : u.Carries R u.microsecond := by
    refine .of_counts_eq rfl id ?_ (fun _ => rfl) (fun _ => rfl) rfl rfl rfl fun ⟨_, _, _, hhalt, _⟩ => hhalt
    simp only [microsecond, timersTicked, setPending_handler, setHandler_handler, FrameHandler.links]
    cases h : u.handler.inReception
    · simp [FrameHandler.bytesTicked_idle h]
    · simp [FrameHandler.bytesTicked_receiving h]
  have counted : s.Carries R (s.setClock { s.clock with ticks := s.clock.ticks + 1 }) := .of_frame rfl rfl rfl
  exact .ite (fun _ => counted.trans (edge _)) fun _ => counted.trans (micro _)

/-! ### Leaving COLD -/

/-- The settle timer counts in COLD alone (R8). -/
theorem cold_of_settles {s : State} (h : s.seq.settles = true) : s.seq.runState = .cold := by
  simp_all [Sequencer.settles]

/-- What leaving COLD does, field by field (R8, R9, R110). -/
theorem leaveCold_eq (strap : Bool) :
    s.leaveCold strap =
      (s.setSeq { s.seq with
          settleTimer := 0, runState := .idle
          role := if strap = true then .root else .follower
          watchdog := if strap = true then s.seq.watchdog else .running s.clock.time s.plan.live.header.beatTimeout }).setHandler
        { s.handler with ringIn := true, ringOut := true, position := if strap = true then some 0 else none } := by
  cases strap <;> rfl

end State

/-! ### Every command -/

/-- The row lets C restart from 0, by ORIGIN or RESET_PART or by a beat frame that performs origin at a follower. -/
def State.LetsRestart (s : State) (c : Instr) : Prop :=
  s.takesCommand c 0x0B ∨ s.takesCommand c 0x14 ∨
    ∃ bytes, s.frameCompleted c = some bytes ∧ s.seq.role = .follower ∧ BeatBytes bytes ∧
      s.seq.mustOrigin (readBeat bytes) = true

/-- A frame that lets C restart, in the row that completes it. -/
theorem State.letsRestart_of_frame {s : State} {c : Instr} {frame : List Byte} (hc : s.frameCompleted c = some frame)
    (h : s.RestartsAt frame) : s.LetsRestart c := by
  rcases h with ⟨hservice, hcode | hcode⟩ | ⟨hrole, hbytes, ho⟩
  · exact .inl (.inr ⟨frame, hc, hservice, hcode⟩)
  · exact .inr (.inl (.inr ⟨frame, hc, hservice, hcode⟩))
  · exact .inr (.inr ⟨frame, hc, hrole, hbytes, ho⟩)

/-- The service rows that let C restart. -/
theorem State.letsRestart_of_service {s : State} {c : Instr} {code : BitVec 8} {f : ServiceFrame}
    (hc : serviceRow c = some (code, f)) (h : code = 0x0B ∨ code = 0x14) : s.LetsRestart c := by
  rcases h with rfl | rfl
  · exact .inl (.inl ⟨f, hc⟩)
  · exact .inr (.inl (.inl ⟨f, hc⟩))

/-- A command is a hardware reset, leaves COLD, takes a step, or carries the laws on, with C restarting only where the row lets it. -/
theorem Effect.cases {s t : State} {c : Instr} (h : Effect s c t) :
    ((c = .powerOn ∨ c = .pinReset) ∧ ∃ cause level, t = s.hardwareReset cause level) ∨
      (∃ strap, c = .settleTimerExpiry strap ∧ s.seq.runState = .cold ∧ t = s.leaveCold strap) ∨
        (∃ watch order, c = .paceStrobe watch order ∧ s.Steps t) ∨ s.Carries (s.LetsRestart c) t := by
  cases h
  case reset cause level hc => exact .inl ⟨hc, cause, level, rfl⟩
  case leave strap h => exact .inr (.inl ⟨strap, rfl, State.cold_of_settles h, rfl⟩)
  case strobe watch order _ =>
    rcases s.strobe_carries watch order with hsteps | hcarries
    · exact .inr (.inr (.inl ⟨watch, order, rfl, hsteps⟩))
    · exact .inr (.inr (.inr (hcarries.mono False.elim)))
  all_goals refine .inr (.inr (.inr ?_))
  case release => exact .of_setSeq rfl rfl rfl rfl rfl
  case nothing => exact .refl s
  case loss => exact s.loseReference_carries
  case return_ => exact .of_counts_eq rfl id rfl (fun _ => rfl) (fun _ => rfl) rfl rfl rfl fun ⟨_, _, _, hhalt, _⟩ => hhalt
  case deferred h => exact s.emitDeferred_carries (State.deferredEmissionReady_eq_true.mp h).2.1
  case watchdog => exact s.expireWatchdog_carries
  case returnTimeout h => exact s.returnTimedOut_carries (State.role_of_returnOverdue h)
  case enumerationTimeout => exact s.loseEnumeration_carries
  case enum f _ => exact s.onArrival_carries (State.takeEnum_carries _ f)
  case transmitDone => exact .of_frame rfl rfl (by simp)
  case service code f hc =>
    exact (s.onArrival_carries (State.takeService_carries _ code f)).mono (State.letsRestart_of_service hc)
  case arrival bytes hc =>
    exact s.onArrival_carries ((State.takeFrame_carries (s.setReception .between) bytes).mono (State.letsRestart_of_frame hc))
  case early bytes hc => exact (s.frameCompletedEarly_carries bytes).mono fun h => State.letsRestart_of_frame hc h.2
  case cut bytes hc => exact (s.cutByStartMark_carries bytes).mono fun h => State.letsRestart_of_frame (hc h.1) h.2

/-- Of the commands, all but the hardware resets and the settle timer's end keep the laws. -/
theorem Effect.keeps {s t : State} {c : Instr} (h : Effect s c t) :
    ((c = .powerOn ∨ c = .pinReset) ∧ ∃ cause level, t = s.hardwareReset cause level) ∨
      (∃ strap, c = .settleTimerExpiry strap ∧ s.seq.runState = .cold ∧ t = s.leaveCold strap) ∨ s.Keeps t := by
  rcases h.cases with hreset | hleave | ⟨_, _, _, hsteps⟩ | hcarries
  · exact .inl hreset
  · exact .inr (.inl hleave)
  · exact .inr (.inr hsteps.toKeeps)
  · exact .inr (.inr hcarries.toKeeps)

/-- In COLD with ring-in OFF no command but the settle timer's end leaves COLD: no strobe is issued, the watchdog does not run, and no
frame is received. -/
theorem Effect.stays_cold {s t : State} {c : Instr} (h : Effect s c t) (hcold : s.seq.runState = .cold)
    (hoff : s.handler.ringIn = false) :
    t.seq.runState = .cold ∨ ∃ strap, c = .settleTimerExpiry strap ∧ t = s.leaveCold strap := by
  have hquiet : s.seq.strobes = false := Sequencer.strobes_eq_false (.inl hcold)
  have hdeaf : s.handler.receives = false := by simp [FrameHandler.receives, hoff]
  have hidle : s.handler.inReception = false := by simp [FrameHandler.inReception, hoff]
  cases h
  case reset => exact .inl rfl
  case leave strap _ => exact .inr ⟨strap, rfl, rfl⟩
  all_goals refine .inl ?_
  case strobe h => simp [hquiet] at h
  case deferred h => simp [State.deferredEmissionReady, hquiet] at h
  case watchdog h => simp [State.watchdogOverdue, hcold] at h
  case loss => simp [State.loseReference, hcold]
  case returnTimeout => simp [State.returnTimedOut, hcold]
  case enum | service | arrival => simp [State.serviceArrives, State.frameArrives, State.onArrival, hdeaf, hcold]
  case early | cut => simp [State.cutByStartMark, State.frameCompletedEarly, hidle, hcold]
  all_goals simp [hcold]

/-- Settles O6: `leaveCold_eq` gives the settle timer's end, `Effect.keeps` that nothing else enters COLD, and `Effect.stays_cold` that
nothing else leaves it. -/
theorem leavingCold : Obligations.LeavingCold := by
  refine ⟨⟨fun _ => rfl, fun s strap hcold hhigh hpresent => ?_⟩, fun c s t h => ⟨fun ht => ?_, fun hs hoff ht => ?_⟩⟩
  · have hsettles : s.seq.settles = true := by simp [Sequencer.settles, hcold, hhigh, hpresent]
    rw [← s.leaveCold_eq strap]
    simp [exec, execSettleTimerExpiry, hsettles]
  · rcases (effect_of_exec h).keeps with ⟨hreset, -⟩ | ⟨strap, -, hcold, -⟩ | hkeeps
    · exact .inr hreset
    · exact .inl hcold
    · exact .inl (hkeeps.cold ht)
  · obtain ⟨strap, hc, -⟩ := ((effect_of_exec h).stays_cold hs hoff).resolve_left ht
    exact ⟨strap, hc⟩

/-- Settles O7: `leaveCold_eq` takes the role from the strap, and every command outside COLD keeps it. -/
theorem roleFixedOnLeavingCold : Obligations.RoleFixedOnLeavingCold := by
  refine ⟨fun s strap hcold hhigh hpresent => ?_, fun c s t hcold hpower hpin h => ?_⟩
  · have hsettles : s.seq.settles = true := by simp [Sequencer.settles, hcold, hhigh, hpresent]
    refine ⟨s.leaveCold strap, by simp [exec, execSettleTimerExpiry, hsettles], ?_, ?_⟩ <;> rintro rfl <;>
      simp [State.leaveCold_eq]
  · rcases (effect_of_exec h).keeps with ⟨hreset, -⟩ | ⟨strap, -, hs, -⟩ | hkeeps
    · exact absurd hreset (by simp [hpower, hpin])
    · exact absurd hs hcold
    · exact hkeeps.role

/-- Settles O15: `Effect.cases`. C and G are 0 after a hardware reset, as before on leaving COLD, C is one higher after a step, and the
rest is what `Carries` says. -/
theorem stepCounterRisesAtStrobesOnly : Obligations.StepCounterRisesAtStrobesOnly := by
  intro c s t hg h
  rcases (effect_of_exec h).cases with ⟨hreset, cause, level, rfl⟩ | ⟨strap, -, -, rfl⟩ | ⟨watch, order, hc, hsteps⟩ | hcarries
  · refine ⟨fun hlt => absurd hlt (Nat.not_lt_zero _), fun _ => ⟨rfl, ?_⟩⟩
    rcases hreset with hc | hc
    · exact .inl hc
    · exact .inr (.inl hc)
  · simp [State.leaveCold_eq]
  · obtain ⟨hstep, hgrant⟩ := hsteps.counts hg
    obtain ⟨hle, -⟩ := hsteps.grant hg
    exact ⟨fun _ => ⟨hstep, hle, watch, order, hc⟩, fun hfall => by omega⟩
  · rcases hcarries.counts hg with ⟨hstep, hgrant⟩ | ⟨hrestart, hzero⟩
    · exact ⟨fun hlt => by omega, fun hfall => by omega⟩
    · exact ⟨fun hlt => by omega, fun _ => ⟨hzero, .inr (.inr hrestart)⟩⟩

/-! ### The laws over one step -/

/-- The laws that O14 keeps together. -/
def State.Sound (s : State) : Prop := s.PortsLaw ∧ s.GrantLaw ∧ s.PositionLaw ∧ s.FollowerLaw

/-- An event that keeps the laws of `State.Keeps` keeps the ports too if it stays in COLD where it was there. -/
theorem State.Keeps.sound {s t : State} (h : s.Keeps t) (hcold : s.seq.runState = .cold → t.seq.runState = .cold)
    (hs : s.Sound) : t.Sound := by
  obtain ⟨⟨hin, hout⟩, hgrant, hposition, hfollower⟩ := hs
  have hsame : (t.seq.runState != .cold) = (s.seq.runState != .cold) := by
    rw [Bool.eq_iff_iff]; simp only [bne_iff_ne]; exact not_congr ⟨h.cold, hcold⟩
  refine ⟨⟨?_, ?_⟩, h.grant hgrant, h.position hposition, fun hf => ?_⟩
  · rw [h.ringIn, hsame, hin]
  · rw [h.ringOut, hsame, hout]
  · rw [h.role] at hf
    rw [h.root hf, hfollower hf]

theorem State.hardwareReset_sound (s : State) (cause : ResetCause) (level : Bool) : (s.hardwareReset cause level).Sound := by
  refine ⟨⟨rfl, rfl⟩, ⟨le_rfl, Nat.zero_le _, fun _ => rfl, fun h => ?_, fun _ => ⟨rfl, rfl, rfl⟩⟩,
    ⟨fun _ => ⟨rfl, rfl⟩, fun h => absurd rfl h, fun _ => ⟨rfl, by simp [hardwareReset, reset, FrameHandler.default]⟩⟩, fun _ => rfl⟩
  cases h

/-- Leaving COLD: G and G_root are 0, the timebase is at its reset values, and the position is the strap's (R8, R9). -/
theorem State.leaveCold_sound {s : State} (hcold : s.seq.runState = .cold) (hs : s.Sound) (strap : Bool) :
    (s.leaveCold strap).Sound := by
  obtain ⟨-, ⟨hle, hmax, -, -, hzero⟩, ⟨hrole, -⟩, hfollower⟩ := hs
  obtain ⟨hgrant, hrootGrant, hf⟩ := hzero hcold
  rw [leaveCold_eq]
  refine ⟨⟨rfl, rfl⟩, ⟨hle, hmax, fun _ => ?_, fun _ h => ?_, fun h => ?_⟩, ⟨fun h => ?_, fun _ hr => ?_, fun hr => ?_⟩, fun _ => ?_⟩
  · simp [hgrant, hrootGrant]
  · simp at h
  · simp at h
  · simp at h
  · cases strap <;> simp_all
  · cases strap <;> simp_all [RunState.numbered]
  · exact hfollower hf

theorem Effect.sound {s t : State} {c : Instr} (h : Effect s c t) (hs : s.Sound) : t.Sound := by
  rcases h.keeps with ⟨-, cause, level, rfl⟩ | ⟨strap, -, hcold, rfl⟩ | hkeeps
  · exact s.hardwareReset_sound cause level
  · exact State.leaveCold_sound hcold hs strap
  · by_cases hcold : s.seq.runState = .cold
    · rcases h.stays_cold hcold (by rw [hs.1.1, hcold]; rfl) with ht | ⟨strap, -, rfl⟩
      · exact hkeeps.sound (fun _ => ht) hs
      · exact State.leaveCold_sound hcold hs strap
    · exact hkeeps.sound (fun hc => absurd hc hcold) hs

theorem State.tick_runState (s : State) : s.tick.seq.runState = s.seq.runState := by
  unfold tick referencePeriod microsecond
  dsimp only
  (repeat' split) <;> rfl

/-- Settles O14: one tick and every command keep the four laws together. -/
theorem stepKeepsGrantLaw : Obligations.StepKeepsGrantLaw := by
  intro s t hports hgrant hposition hfollower h
  have hs : s.Sound := ⟨hports, hgrant, hposition, hfollower⟩
  unfold step at h
  split at h
  · cases h
    exact (s.tick_carries (R := False)).toKeeps.sound (s.tick_runState ▸ id) hs
  case h_2 c rest _ => exact (effect_of_exec h).sound (s := s.setPending rest) hs

end Sys2Proof.Machine
end

section
/-! SUPPORT. Resets, the reference, and a tick on an empty queue (R3, R7, R8, R23, R176). -/

namespace Sys2Proof.Machine

/-! ### Hardware resets and the state after them -/

/-- Settles O4: the table of R23 is what `State.hardwareReset` writes out. -/
theorem hardwareResetSequencer : Obligations.HardwareResetSequencer :=
  fun s => ⟨s.hardwareReset .power s.seq.resetN, s.hardwareReset .pin false, rfl, rfl, rfl, rfl, rfl, rfl, rfl, rfl⟩

/-- Power-on with RESET_N high leaves a part at its reset values as it is. -/
theorem State.hardwareReset_reset : State.reset.hardwareReset .power true = State.reset := rfl

theorem State.reset_trackLaw : State.reset.TrackLaw := by
  have hstaged (i : Fin 24) : State.reset.plan.staged.tracks[i] = TrackRecord.default := by
    simp [reset, PlanStore.default, Plan.default]
  have hlive (i : Fin 24) : State.reset.plan.live.tracks[i] = TrackRecord.default := by
    simp [reset, PlanStore.default, Plan.default]
  have hrun (i : Fin 24) : State.reset.tracks[i] = TrackRun.default := by simp [reset]
  refine ⟨fun i => ?_, fun i => ?_, fun i => ?_⟩
  · rw [hstaged]; decide
  · rw [hlive]; exact ⟨by decide, by decide, fun h => nomatch h⟩
  · rw [hlive, hrun]; decide

theorem State.reset_laneLaw : State.reset.LaneLaw := by
  intro i
  have hrun : State.reset.lanes[i] = LaneRun.default := by simp [reset]
  have hlive : State.reset.plan.live.lanes[i] = LaneRecord.default := by simp [reset, PlanStore.default, Plan.default]
  simp only [hrun, hlive]
  rfl

theorem State.reset_cellLaw : State.reset.CellLaw := by
  have hstaged (i : Fin 16) : State.reset.plan.staged.cells[i] = CellConfig.default := by
    simp [reset, PlanStore.default, Plan.default]
  have hlive (i : Fin 16) : State.reset.plan.live.cells[i] = CellConfig.default := by
    simp [reset, PlanStore.default, Plan.default]
  have hrun (i : Fin 16) : State.reset.cells[i] = CellRun.default := by simp [reset]
  refine ⟨fun i => ?_, fun i => ?_, fun i => ?_⟩
  · rw [hstaged]; decide
  · rw [hlive]; decide
  · rw [hlive, hrun]; decide

theorem State.reset_eventLaw : State.reset.EventLaw := by
  intro i
  have hentry : State.reset.events.entries[i] = EventEntry.default := by simp [reset, EventTable.default]
  rw [hentry]
  decide

theorem State.reset_requestLaw : State.reset.RequestLaw := by
  have hnone (i : Fin 36) : State.reset.requests.waiting[i] = none := by simp [reset, RequestUnit.default]
  refine ⟨fun i p hp => by simp [hnone] at hp, ?_, ?_⟩ <;>
    exact (getElem_tabulate SourceSetting.default _ _).trans (by simp [SourceSetting.default])

theorem State.reset_queueLaw : State.reset.QueueLaw :=
  ⟨Nat.zero_le _, ⟨Nat.zero_le _, by decide, rfl⟩, Nat.zero_le _, Nat.zero_le _, fun h => nomatch h⟩

theorem State.reset_countLaw : State.reset.CountLaw := by
  intro n hn
  have hzero : n = 0 := by
    simpa [reset, Sequencer.default, FrameHandler.default, RequestUnit.default, RootTimebase.default, HaltRecord.default,
      PlanStore.default] using hn
  omega

/-- Settles O9: law by law; those of O14 hold after any hardware reset. -/
theorem resetMeetsLaws : Obligations.ResetMeetsLaws := by
  obtain ⟨hports, hgrant, hposition, hfollower⟩ := State.hardwareReset_reset ▸ State.reset.hardwareReset_sound .power true
  exact ⟨hports, State.reset_trackLaw, State.reset_laneLaw, State.reset_cellLaw, State.reset_eventLaw, State.reset_requestLaw,
    State.reset_queueLaw, hgrant, hposition, Nat.zero_le _, hfollower, State.reset_countLaw⟩

/-! ### The reference (R7) -/

/-- A stranded follower keeps its timebase (R18). -/
theorem State.enterStranded_of_follower {s : State} (h : s.seq.role = .follower) :
    s.enterStranded = s.setSeq { s.seq with runState := .stranded } := by
  simp [enterStranded, h]

/-- A stranded root closes its halt record (R142). -/
theorem State.enterStranded_of_root {s : State} (h : s.seq.role = .root) :
    s.enterStranded =
      (s.setSeq { s.seq with runState := .stranded }).setRoot
        { s.root with haltRecord := { s.root.haltRecord with isOpen := false } } := by
  simp [enterStranded, h, RootTimebase.closeRecord]

/-- The full settle time by reset cause (R8). -/
theorem ResetCause.settleTime_eq (cause : ResetCause) : cause.settleTime = if cause = .power then 2048 else 128 := by
  cases cause <;> rfl

/-- A loss in RUN or HALTING is counted and latched before the part is stranded (R7, R18). -/
theorem State.loseReference_moving {s : State} (h : s.seq.runState = .run ∨ s.seq.runState = .halting) :
    s.loseReference =
      (s.setSeq { s.seq with
        referencePresent := false, strobeCount := 0, referenceLost := true
        referenceLossCount := raiseCount s.seq.referenceLossCount 1 }).enterStranded := by
  rcases h with h | h <;> simp [loseReference, h]

/-- Settles O8: one case for each group of run states of R7. -/
theorem referenceLossAndReturn : Obligations.ReferenceLossAndReturn := by
  refine ⟨fun s hpresent => ?_, fun _ => rfl⟩
  have hexec : exec .referenceLoss s = .next s.loseReference := by simp [exec, execReferenceLoss, hpresent]
  rw [hexec]
  refine ⟨fun hcold => ?_, fun hmoving => ⟨fun hrole => ?_, fun hrole => ?_⟩, fun hcold hrun hhalting => ?_⟩
  · simp [State.loseReference, hcold, ResetCause.settleTime_eq]
  · rw [State.loseReference_moving hmoving]; exact congrArg Host.Outcome.next (State.enterStranded_of_follower hrole)
  · rw [State.loseReference_moving hmoving]; exact congrArg Host.Outcome.next (State.enterStranded_of_root hrole)
  · cases h : s.seq.runState <;> simp_all [State.loseReference, raiseCount]

/-! ### A tick on an empty queue -/

/-- What a REFCLK edge does (R3, R7). -/
theorem State.referencePeriod_spec (s : State) :
    let t := s.setClock { s.clock with sinceEdge := 0 }
    let count := s.seq.strobeCount + 1
    (s.seq.referencePresent = false → s.referencePeriod = t.setPending [.referenceReturn]) ∧
    (s.seq.referencePresent = true → s.seq.runState = .cold → s.referencePeriod = t) ∧
    (s.seq.referencePresent = true → s.seq.runState ≠ .cold → count < s.seq.paceInForce →
      s.referencePeriod = (t.setSeq { s.seq with strobeCount := count }).setPending []) ∧
    (s.seq.referencePresent = true → s.seq.runState ≠ .cold → s.seq.paceInForce ≤ count →
      ∃ watch order, s.referencePeriod = (t.setSeq { s.seq with strobeCount := 0 }).setPending [.paceStrobe watch order]) := by
  refine ⟨fun h => ?_, fun h hcold => ?_, fun h hcold hcount => ?_, fun h hcold hcount => ?_⟩
  · simp [referencePeriod, h]
  · simp [referencePeriod, h, hcold]
  · simp [referencePeriod, h, hcold, dueIf, Nat.not_le.mpr hcount]
  · exact ⟨Config.watchLines s.clock.ticks, tickOrder s.clock.ticks, by simp [referencePeriod, h, hcold, dueIf, hcount]⟩

/-- A frame is in reception, as the two fields say it (R176). -/
theorem FrameHandler.inReception_iff (h : FrameHandler) :
    h.inReception = true ↔ h.ringIn = true ∧ h.reception = .receiving := by
  simp [inReception]

/-- The settle timer counts, as the three fields say it (R8). -/
theorem Sequencer.settles_iff (q : Sequencer) :
    q.settles = true ↔ q.runState = .cold ∧ q.resetN = true ∧ q.referencePresent = true := by
  simp [settles, and_assoc]

/-- A watchdog is due, as its fields say it (R17). -/
theorem Watchdog.isDue_iff (w : Watchdog) (now : Nat) :
    w.isDue now = true ↔ ∃ since limit, w = .running since limit ∧ limit ≤ now - since := by
  cases w <;> simp [isDue]

/-- The watchdog's expiry is due at a follower out of COLD (R17). -/
theorem State.watchdogOverdue_iff (s : State) :
    s.watchdogOverdue = true ↔
      s.seq.role = .follower ∧ s.seq.runState ≠ .cold ∧
        ∃ since limit, s.seq.watchdog = .running since limit ∧ limit ≤ s.clock.time - since := by
  simp [watchdogOverdue, Watchdog.isDue_iff, and_assoc]

/-- The return timeout is due at a root whose oldest entry has reached the live value (R136). -/
theorem State.returnOverdue_iff (s : State) :
    s.returnOverdue = true ↔
      s.seq.role = .root ∧
        ∃ e rest, s.root.outstanding = e :: rest ∧ s.plan.live.header.returnTimeout ≤ s.clock.time - e.emissionTime := by
  unfold returnOverdue oldestAge
  cases h : s.root.outstanding <;> simp [and_assoc]

/-- The enumeration timeout is due at a root while an enumeration is outstanding (R127). -/
theorem State.enumerationOverdue_iff (s : State) :
    s.enumerationOverdue = true ↔
      s.seq.role = .root ∧ s.handler.enumerationOutstanding = true ∧
        s.plan.live.header.returnTimeout ≤ s.handler.enumerationTimer := by
  simp [enumerationOverdue, and_assoc]

/-- The events that a microsecond can queue, each with its guard. -/
theorem State.mem_dueEvents (s : State) (c : Instr) :
    c ∈ s.dueEvents ↔
      ((s.seq.referencePresent = true ∧ 2 ≤ s.clock.sinceEdge) ∧ c = .referenceLoss) ∨
      ((s.seq.settles = true ∧ s.seq.settleTimer = 0) ∧ c = .settleTimerExpiry (Config.rootsel s.clock.ticks)) ∨
      (s.watchdogOverdue = true ∧ c = .beatWatchdogExpiry) ∨ (s.returnOverdue = true ∧ c = .returnTimeout) ∨
      (s.enumerationOverdue = true ∧ c = .enumerationTimeout) ∨
      ((s.handler.inReception = true ∧ 62 ≤ s.handler.arrived.length) ∧ c = .frameOverlength s.handler.arrived) ∨
      ((s.handler.inReception = true ∧ 4 ≤ s.handler.gapTimer) ∧ c = .frameGapTimeout s.handler.arrived) := by
  simp [dueEvents, mem_dueIf]

/-- What a microsecond leaves in the enumeration timer (R127). -/
theorem FrameHandler.enumerationTicked_eq (h : FrameHandler) :
    h.enumerationTicked =
      if h.enumerationOutstanding = true then min (h.enumerationTimer + 1) 65535 else h.enumerationTimer := rfl

/-- What a microsecond leaves in the settle timer (R8). -/
theorem Sequencer.settleTicked_eq (q : Sequencer) :
    q.settleTicked =
      if q.runState = .cold ∧ q.resetN = true ∧ q.referencePresent = true then q.settleTimer - 1 else q.settleTimer := by
  simp only [settleTicked, settles_iff]

/-- A microsecond changes no field of the handler but the bytes, the gap timer and the enumeration timer. -/
theorem FrameHandler.bytesTicked_eq (h : FrameHandler) (bytes : List Byte) :
    h.bytesTicked bytes =
      { h with gapTimer := (h.bytesTicked bytes).gapTimer, arrived := (h.bytesTicked bytes).arrived } := by
  unfold bytesTicked; split <;> rfl

/-- The events of a microsecond, each with its guard read in the state before it. -/
theorem State.mem_microsecond_pending (s : State) (c : Instr) :
    let h := s.microsecond.handler
    let settling := s.seq.runState = .cold ∧ s.seq.resetN = true ∧ s.seq.referencePresent = true
    let receiving := s.handler.ringIn = true ∧ s.handler.reception = .receiving
    c ∈ s.microsecond.pending ↔
      ((s.seq.referencePresent = true ∧ 2 ≤ s.clock.sinceEdge + 1) ∧ c = .referenceLoss) ∨
      ((settling ∧ s.seq.settleTimer ≤ 1) ∧ c = .settleTimerExpiry (Config.rootsel s.clock.ticks)) ∨
      ((s.seq.role = .follower ∧ s.seq.runState ≠ .cold ∧
        ∃ since limit, s.seq.watchdog = .running since limit ∧ limit ≤ s.clock.time + 1 - since) ∧ c = .beatWatchdogExpiry) ∨
      ((s.seq.role = .root ∧ ∃ e rest, s.root.outstanding = e :: rest ∧
        s.plan.live.header.returnTimeout ≤ s.clock.time + 1 - e.emissionTime) ∧ c = .returnTimeout) ∨
      ((s.seq.role = .root ∧ s.handler.enumerationOutstanding = true ∧
        s.plan.live.header.returnTimeout ≤ s.handler.enumerationTicked) ∧ c = .enumerationTimeout) ∨
      ((receiving ∧ 62 ≤ h.arrived.length) ∧ c = .frameOverlength h.arrived) ∨
      ((receiving ∧ 4 ≤ h.gapTimer) ∧ c = .frameGapTimeout h.arrived) := by
  have hsettles : s.timersTicked.seq.settles = s.seq.settles := rfl
  have hreceives : s.timersTicked.handler.inReception = s.handler.inReception := s.handler.bytesTicked_inReception _
  have htimer : s.seq.settles = true ∧ s.timersTicked.seq.settleTimer = 0 ↔ s.seq.settles = true ∧ s.seq.settleTimer ≤ 1 := by
    refine and_congr_right fun h => ?_
    simp only [timersTicked, setHandler_seq, setSeq_seq, Sequencer.settleTicked, h, if_true]
    omega
  have houtstanding : s.timersTicked.handler.enumerationOutstanding = s.handler.enumerationOutstanding := by
    simp only [timersTicked, setHandler_handler]
    rw [FrameHandler.bytesTicked_eq]
  have hpending : s.microsecond.pending = s.timersTicked.dueEvents := rfl
  rw [hpending, mem_dueEvents, watchdogOverdue_iff, returnOverdue_iff, enumerationOverdue_iff, hsettles, hreceives, htimer,
    houtstanding, Sequencer.settles_iff, FrameHandler.inReception_iff]
  rfl

/-- What a microsecond moves, with the bytes, the gap timer and the events read from the state after it. -/
theorem State.microsecond_eq (s : State) :
    s.microsecond =
      (((s.setClock { s.clock with time := s.clock.time + 1, sinceEdge := s.clock.sinceEdge + 1 }).setSeq
        { s.seq with settleTimer := s.seq.settleTicked }).setHandler
        { s.handler with
          enumerationTimer := s.handler.enumerationTicked, gapTimer := s.microsecond.handler.gapTimer
          arrived := s.microsecond.handler.arrived }).setPending s.microsecond.pending := by
  cases h : s.handler.inReception
  · simp only [microsecond, timersTicked, FrameHandler.bytesTicked_idle h]; rfl
  · simp only [microsecond, timersTicked, FrameHandler.bytesTicked_receiving h]; rfl

/-- Settles O3: an edge by `referencePeriod_spec`; a microsecond by the equations of its timers and `mem_microsecond_pending`. -/
theorem emptyQueueTicks : Obligations.EmptyQueueTicks := by
  refine ⟨fun s h => ?_, State.referencePeriod_spec, fun s => ?_⟩
  · simp [step, h, State.tick]
  have hmem := s.mem_microsecond_pending
  dsimp only at hmem
  refine ⟨?_, fun hr => ?_, fun hr => ?_, ?_, ?_, ?_, ?_, ?_, fun bytes => ?_, fun bytes => ?_, fun c hc => ?_⟩
  · simpa only [FrameHandler.enumerationTicked_eq, Sequencer.settleTicked_eq] using s.microsecond_eq
  · rw [← FrameHandler.inReception_iff] at hr
    exact ⟨Config.bytesArrive s.clock.ticks, by simp [State.microsecond, State.timersTicked, FrameHandler.bytesTicked_receiving hr]⟩
  · rw [← FrameHandler.inReception_iff, Bool.not_eq_true] at hr
    simp [State.microsecond, State.timersTicked, FrameHandler.bytesTicked_idle hr]
  · simp [hmem]
  · simp [hmem]
  · simp [hmem]
  · simp [hmem]
  · simp [hmem, FrameHandler.enumerationTicked_eq]
  · simp [hmem, and_assoc]
  · simp [hmem, and_assoc]
  · rw [hmem] at hc
    rcases hc with ⟨-, hc⟩ | ⟨-, hc⟩ | ⟨-, hc⟩ | ⟨-, hc⟩ | ⟨-, hc⟩ | ⟨-, hc⟩ | ⟨-, hc⟩ <;> simp [hc]

end Sys2Proof.Machine
end

section
/-! SUPPORT. Strobes: the taking of a step, strobes that take none, the end of a halt, and the root's cadence (R4 to R6, R15, R16, R130). -/

namespace Sys2Proof.Machine

/-! ### The modes of a beat frame at a follower (R10 to R14) -/

section modes

variable {q : Sequencer} {f : BeatFields}

/-- The fields are not read outside the reading states, or unsynchronised (R10). -/
theorem Sequencer.readFields_unread (h : q.runState.readsGrant = false ∨ q.originNumber = none) : q.readFields f = q := by
  rcases h with h | h <;> simp [readFields, synchronised, h]

/-- A synchronised follower in a reading state reads by the frame's mode (R10). -/
theorem Sequencer.readFields_ready (h : q.runState.readsGrant = true) (ho : q.originNumber ≠ none) (hm : f.mode = .ready) :
    q.readFields f = (q.readGrant f).readReady := by
  simp [readFields, synchronised, Option.isSome_iff_ne_none, h, ho, hm]

theorem Sequencer.readFields_run (h : q.runState.readsGrant = true) (ho : q.originNumber ≠ none) (hm : f.mode = .run) :
    q.readFields f = (q.readGrant f).readRun := by
  simp [readFields, synchronised, Option.isSome_iff_ne_none, h, ho, hm]

theorem Sequencer.readFields_halt (h : q.runState.readsGrant = true) (ho : q.originNumber ≠ none) (hm : f.mode = .halt) :
    q.readFields f = (q.readGrant f).readHalt f.haltStep := by
  simp [readFields, synchronised, Option.isSome_iff_ne_none, h, ho, hm]

/-- The grant field, outside mode HALT (R11). -/
theorem Sequencer.readGrant_eq (hm : f.mode ≠ .halt) : q.readGrant f = { q with grant := max q.grant f.grant } := by
  cases h : f.mode <;> simp_all [readGrant]

/-- The grant and halt fields in mode HALT (R11). -/
theorem Sequencer.readGrant_halt (hm : f.mode = .halt) :
    q.readGrant f = { q with grant := max q.grant f.grant, haltStep := some f.haltStep, haltKind := f.haltKind } := by
  simp [readGrant, hm]

end modes

/-- Settles O36: by the frame's mode, then by the run states that the rules of the mode tell apart. -/
theorem followerReadsModes : Obligations.FollowerReadsModes := by
  intro q f
  refine ⟨Sequencer.readFields_unread, fun h ho => ⟨fun hm => ?_, fun hm => ?_, fun hm => ?_⟩⟩
  · rw [Sequencer.readFields_ready h ho hm, Sequencer.readGrant_eq (by simp [hm])]
    refine ⟨fun hs => ?_, fun hs => ?_⟩
    · rcases hs with hs | hs <;> simp only [Sequencer.readReady, hs]
    · rcases hs with hs | hs | hs <;> simp only [Sequencer.readReady, hs]
  · rw [Sequencer.readFields_run h ho hm, Sequencer.readGrant_eq (by simp [hm])]
    refine ⟨fun hs hlt => ?_, fun hs hle => ?_, fun hs => ?_, fun hs => ?_⟩
    · simp only [Sequencer.readRun, hs, if_pos hlt]
    · simp only [Sequencer.readRun, hs, if_neg (Nat.not_lt.mpr hle)]
    · simp only [Sequencer.readRun, hs]
    · rcases hs with hs | hs | hs <;> simp only [Sequencer.readRun, hs]
  · rw [Sequencer.readFields_halt h ho hm, Sequencer.readGrant_halt hm]
    refine ⟨fun hlt => ?_, fun heq hk => ?_, fun heq hk => ?_, fun hlt => ?_⟩
    · simp [Sequencer.readHalt, hlt]
    · simp [Sequencer.readHalt, heq, hk, HaltKind.endState]
    · simp [Sequencer.readHalt, heq, hk, HaltKind.endState]
    · simp [Sequencer.readHalt, Nat.not_lt.mpr hlt.le, hlt.ne']

namespace State

variable {s : State}

/-! ### The taking of a step (R5, R157) -/

/-- With no activation due at the step the blocks compute it as they stand. -/
theorem takeStep_of_not_due (h : ∀ a ∈ s.plan.pendingActivation, a.step ≠ s.seq.step + 1) (watch : BitVec 16) :
    s.takeStep watch = s.computeStep watch (s.seq.step + 1) := by
  rw [takeStep_eq]
  cases hp : s.plan.pendingActivation with
  | none => simp [PlanStore.isDueAt, applyDue, hp]
  | some a =>
    have ha : a.step ≠ s.seq.step + 1 := h a hp
    simp [PlanStore.isDueAt, applyDue, hp, ha]

/-- An activation due at the step is applied first, and overdue timeouts expire as the step ends. -/
theorem takeStep_of_due {a : Activation} (hp : s.plan.pendingActivation = some a) (ha : a.step = s.seq.step + 1)
    (watch : BitVec 16) : s.takeStep watch = ((s.activate a).computeStep watch (s.seq.step + 1)).expireOverdue := by
  rw [takeStep_eq]
  simp [PlanStore.isDueAt, applyDue, hp, ha]

/-- What an activation leaves in the plan store (R157, steps 1, 2, 6 and 7). -/
theorem activate_plan (s : State) (a : Activation) :
    (s.activate a).plan =
      s.plan.applied a.stage (s.plan.staged.recordClamps + keptPhaseClamps s.plan.staged.clamped.tracks s.tracks) := by
  simp [activate]

/-- The step in the state an activation leaves: it is the only one pending. -/
theorem activate_takeStep (s : State) (a : Activation) (watch : BitVec 16) :
    (s.activate a).takeStep watch = (s.activate a).computeStep watch (s.seq.step + 1) := by
  rw [takeStep_of_not_due (by simp [activate_plan, PlanStore.applied])]
  simp

theorem takeStep_of_due_eq {a : Activation} (hp : s.plan.pendingActivation = some a) (ha : a.step = s.seq.step + 1)
    (watch : BitVec 16) : s.takeStep watch = ((s.activate a).takeStep watch).expireOverdue := by
  rw [takeStep_of_due hp ha, activate_takeStep]

theorem raiseClamps_setSeq (s : State) (q : Sequencer) (clamps causeStep : Nat) :
    (s.setSeq q).raiseClamps clamps causeStep = (s.raiseClamps clamps causeStep).setSeq q := by
  unfold raiseClamps; split <;> rfl

/-- An activation reads of the sequencer only C. -/
theorem activate_setSeq (s : State) {q : Sequencer} (h : q.step = s.seq.step) (a : Activation) :
    (s.setSeq q).activate a = (s.activate a).setSeq q := by
  have hplan (x : PlanStore) : (s.setSeq q).setPlan x = (s.setPlan x).setSeq q := rfl
  have htracks (u : State) (x) : (u.setSeq q).setTracks x = (u.setTracks x).setSeq q := rfl
  have hlanes (u : State) (x) : (u.setSeq q).setLanes x = (u.setLanes x).setSeq q := rfl
  have hcells (u : State) (x) : (u.setSeq q).setCells x = (u.setCells x).setSeq q := rfl
  simp only [activate, setSeq_plan, setSeq_tracks, setSeq_lanes, setSeq_cells, setSeq_events, setSeq_seq, h, hplan, htracks,
    hlanes, hcells, raiseClamps_setSeq]

theorem struck_activate (s : State) (a : Activation) : s.struck.activate a = (s.activate a).struck := by
  unfold struck
  rw [(s.activate_frame a).1]
  exact activate_setSeq s (by rfl) a

/-! ### A strobe at a follower -/

@[simp] theorem struck_seq (s : State) : s.struck.seq = { s.seq with strobeCount := 0 } := rfl
@[simp] theorem struck_plan (s : State) : s.struck.plan = s.plan := rfl
@[simp] theorem struck_root (s : State) : s.struck.root = s.root := rfl

/-- A follower has no cadence (R130). -/
theorem cadence_of_follower (h : s.seq.role = .follower) (spacing : Nat) : s.cadence spacing = s := by
  simp [cadence, h]

theorem actOnStrobe_role (s : State) (watch : BitVec 16) : (s.actOnStrobe watch).seq.role = s.seq.role := by
  rcases s.actOnStrobe_carries watch with h | h
  · exact h.role
  · exact h.role

/-- At a follower the strobe is its step, in either order. -/
theorem strobe_of_follower (h : s.seq.role = .follower) (watch : BitVec 16) (order : StrobeOrder) :
    s.strobe watch order = (s.struck.actOnStrobe watch).paceLoaded := by
  have hacted : (s.struck.actOnStrobe watch).seq.role = .follower := (actOnStrobe_role _ _).trans h
  cases order
  · rw [strobe_stepFirst, cadence_of_follower hacted]
  · rw [strobe_emissionFirst, cadence_of_follower (s := s.struck) h]

/-- Out of COLD and with the reference present the row is the strobe (R3). -/
theorem exec_paceStrobe (hcold : s.seq.runState ≠ .cold) (hpresent : s.seq.referencePresent = true) (watch : BitVec 16)
    (order : StrobeOrder) : exec (.paceStrobe watch order) s = .next (s.strobe watch order) := by
  simp [exec, execPaceStrobe, Sequencer.strobes, hcold, hpresent]

/-- In RUN with C below G the strobe takes a step (R4). -/
theorem actOnStrobe_run (hrun : s.seq.runState = .run) (h : s.seq.step < s.seq.grant) (watch : BitVec 16) :
    s.actOnStrobe watch = s.takeStep watch := by
  simp [actOnStrobe, hrun, h]

/-- In RUN with C = G the strobe is an underrun (R6). -/
theorem actOnStrobe_underrun (hrun : s.seq.runState = .run) (h : s.seq.step = s.seq.grant) (watch : BitVec 16) :
    s.actOnStrobe watch = s.underrun := by
  simp [actOnStrobe, hrun, h]

/-- In HALTING with C below F and G the strobe takes a step, which may end the halt (R4, R15). -/
theorem actOnStrobe_halting {f : Nat} (hstate : s.seq.runState = .halting) (hf : s.seq.haltStep = some f)
    (hlt : s.seq.step < f) (h : s.seq.step < s.seq.grant) (watch : BitVec 16) :
    s.actOnStrobe watch = (s.takeStep watch).endHalting := by
  simp [actOnStrobe, hstate, h, Sequencer.belowHalt, hf, hlt]

/-- In HALTING at G or at F the strobe takes no step (R4, R16). -/
theorem actOnStrobe_waits (hstate : s.seq.runState = .halting)
    (h : s.seq.step = s.seq.grant ∨ s.seq.haltStep = some s.seq.step) (watch : BitVec 16) : s.actOnStrobe watch = s := by
  rcases h with h | h <;> simp [actOnStrobe, hstate, Sequencer.belowHalt, h]

/-- Where the halt ends (R15). -/
theorem endHalting_seq (s : State) :
    s.endHalting.seq =
      if s.seq.role = .follower ∧ s.seq.haltStep = some s.seq.step then { s.seq with runState := s.seq.haltKind.endState }
      else s.seq := by
  unfold endHalting; split <;> rfl

/-- Outside RUN and HALTING a strobe takes no step (R4). -/
theorem actOnStrobe_rests (hrun : s.seq.runState ≠ .run) (hhalting : s.seq.runState ≠ .halting) (watch : BitVec 16) :
    s.actOnStrobe watch = s := by
  cases h : s.seq.runState <;> simp_all [actOnStrobe]

end State

/-- Settles O16: `takeStep_of_not_due` and `takeStep_of_due_eq`, then both at a follower's strobe. -/
theorem followerStrobeTakesStep : Obligations.FollowerStrobeTakesStep := by
  refine ⟨fun s watch => ⟨fun h => State.takeStep_of_not_due h watch, fun a hp ha => ⟨State.takeStep_of_due_eq hp ha watch, ?_⟩⟩,
    fun s watch order hrole hrun hpresent hlt hdue => ?_, fun s watch order a hrole hrun hpresent hlt hp ha => ?_⟩
  · intro hrole
    rw [State.takeStep_of_due_eq hp ha, State.expireOverdue_of_follower]
    simp [State.takeStep_seq_of_follower, hrole]
  · refine ⟨_, State.exec_paceStrobe (by simp [hrun]) hpresent watch order, ?_⟩
    rw [State.strobe_of_follower hrole, State.actOnStrobe_run (s := s.struck) hrun hlt, State.takeStep_of_not_due (s := s.struck) hdue]
    exact ⟨rfl, rfl, rfl, rfl, rfl, rfl, rfl, rfl, rfl, rfl, rfl, rfl⟩
  · obtain ⟨hseq, -⟩ := s.activate_frame a
    have hstepped : (s.activate a).strobe watch order =
        ((s.activate a).struck.computeStep watch (s.seq.step + 1)).paceLoaded := by
      rw [State.strobe_of_follower (by rw [hseq, hrole]),
        State.actOnStrobe_run (by simp [hrun]) (by simp [hlt]), State.takeStep_of_not_due]
      · simp
      · simp [State.activate_plan, PlanStore.applied]
    have hsame : s.strobe watch order = (s.activate a).strobe watch order := by
      rw [hstepped, State.strobe_of_follower hrole, State.actOnStrobe_run (s := s.struck) hrun hlt,
        State.takeStep_of_due (s := s.struck) hp ha, State.struck_activate, State.expireOverdue_of_follower (by simp [hrole])]
      rfl
    refine ⟨_, State.exec_paceStrobe (by simp [hrun]) hpresent watch order, ?_, ?_⟩
    · rw [hsame]
      exact State.exec_paceStrobe (by simp [hrun]) (by simp [hpresent]) watch order
    · rw [hsame, hstepped]
      simp [State.paceLoaded, State.activate_plan, PlanStore.applied, Plan.clamped, Header.clamped]

/-- Settles O17: `actOnStrobe_underrun`, and the states in which a follower's strobe takes no step. -/
theorem strobeWithoutStep : Obligations.StrobeWithoutStep := by
  refine ⟨⟨fun s watch hrun heq => State.actOnStrobe_underrun hrun heq watch,
    fun s watch order hrole hrun hpresent heq => ?_⟩, fun s watch order hrole hpresent hcold hrun hhalting => ?_⟩
  · rw [State.exec_paceStrobe (by simp [hrun]) hpresent, State.strobe_of_follower hrole,
      State.actOnStrobe_underrun (s := s.struck) hrun heq]
    rfl
  · have hacted : s.struck.actOnStrobe watch = s.struck := by
      by_cases h : s.seq.runState = .halting
      · exact State.actOnStrobe_waits (s := s.struck) h (hhalting h) watch
      · exact State.actOnStrobe_rests (s := s.struck) hrun h watch
    rw [State.exec_paceStrobe hcold hpresent, State.strobe_of_follower hrole, hacted]
    rfl

/-- Settles O18: the step of `takeStep_seq_of_follower`, then `State.endHalting` by F and the kind; and `readFields_halt`. -/
theorem haltingEndsAtHaltStep : Obligations.HaltingEndsAtHaltStep := by
  refine ⟨fun s watch order f hrole hstate hpresent hf hlt hgrant => ?_, fun q f hstate hsync hm hlt => ?_⟩
  · refine ⟨_, State.exec_paceStrobe (by simp [hstate]) hpresent watch order, ?_⟩
    rw [State.strobe_of_follower hrole, State.actOnStrobe_halting (s := s.struck) hstate hf hlt hgrant]
    have hseq := State.takeStep_seq_of_follower (s := s.struck) hrole watch
    by_cases hend : f = s.seq.step + 1
    · refine ⟨?_, ?_, ?_, ?_, fun h => ?_, fun _ hk => ?_, fun _ hk => ?_⟩
      case refine_5 => omega
      case refine_6 | refine_7 => simp [State.paceLoaded, State.endHalting_seq, hseq, hrole, hf, hend, hk, HaltKind.endState]
      all_goals simp [State.paceLoaded, State.endHalting_seq, hseq, hrole, hf, hend]
    · refine ⟨?_, ?_, ?_, ?_, fun _ => ?_, fun h => ?_, fun h => ?_⟩
      case refine_6 | refine_7 => omega
      all_goals simp [State.paceLoaded, State.endHalting_seq, hseq, hrole, hf, hend, hstate]
  · rw [Sequencer.readFields_halt (by simp [hstate, RunState.readsGrant]) (Option.isSome_iff_ne_none.mp hsync) hm,
      Sequencer.readGrant_halt hm]
    simp [Sequencer.readHalt, hlt]

end Sys2Proof.Machine
end

section
/-! SUPPORT. The root's cadence at a strobe (R130), and that an emission outside RUN and HALTING leaves the part at rest. -/

namespace Sys2Proof.Machine

namespace State

variable {s : State}

/-! ### The cadence (R130) -/

/-- The numbered states are those but COLD and IDLE (R103). -/
theorem numbered_iff (state : RunState) : state.numbered = true ↔ state ≠ .cold ∧ state ≠ .idle := by
  cases state <;> simp [RunState.numbered]

/-- Below the beat spacing the emission count rises. -/
theorem cadence_counts (hrole : s.seq.role = .root) (hn : s.seq.runState.numbered = true) (hdue : s.root.emissionDue = false)
    {spacing : Nat} (hlt : s.root.emissionCount + 1 < spacing) :
    s.cadence spacing = s.setRoot { s.root with emissionCount := s.root.emissionCount + 1 } := by
  simp [cadence, hrole, hn, hdue, Nat.not_le.mpr hlt]

/-- At the beat spacing the count restarts and the emission is made or deferred. -/
theorem cadence_reaches (hrole : s.seq.role = .root) (hn : s.seq.runState.numbered = true) (hdue : s.root.emissionDue = false)
    {spacing : Nat} (hle : spacing ≤ s.root.emissionCount + 1) :
    s.cadence spacing = (s.setRoot { s.root with emissionCount := 0 }).emitOrDefer := by
  simp [cadence, hrole, hn, hdue, hle]

/-- A due emission is made once the list has room. -/
theorem cadence_due (hrole : s.seq.role = .root) (hn : s.seq.runState.numbered = true) (hdue : s.root.emissionDue = true)
    (spacing : Nat) : s.cadence spacing = s.emitDeferred := by
  simp [cadence, hrole, hn, hdue]

theorem emitOrDefer_of_room (h : s.root.outstanding.length < 32) : s.emitOrDefer = s.emit := by
  simp [emitOrDefer, RootTimebase.hasRoom, h]

theorem emitOrDefer_of_full (h : 32 ≤ s.root.outstanding.length) :
    s.emitOrDefer = s.setRoot { s.root with deferredCount := raiseCount s.root.deferredCount 1, emissionDue := true } := by
  simp [emitOrDefer, RootTimebase.hasRoom, Nat.not_lt.mpr h]

theorem emitDeferred_of_room (h : s.root.outstanding.length < 32) :
    s.emitDeferred = (s.setRoot { s.root with emissionDue := false }).emit := by
  simp [emitDeferred, RootTimebase.hasRoom, h]

theorem emitDeferred_of_full (h : 32 ≤ s.root.outstanding.length) : s.emitDeferred = s := by
  simp [emitDeferred, RootTimebase.hasRoom, Nat.not_lt.mpr h]

/-- The cadence by its cases, at a root in a numbered state. -/
theorem cadence_spec (hrole : s.seq.role = .root) (hn : s.seq.runState.numbered = true) (spacing : Nat) :
    let count := s.root.emissionCount + 1
    (s.root.emissionDue = false → count < spacing → s.cadence spacing = s.setRoot { s.root with emissionCount := count }) ∧
    (s.root.emissionDue = false → spacing ≤ count → s.root.outstanding.length < 32 →
      s.cadence spacing = (s.setRoot { s.root with emissionCount := 0 }).emit) ∧
    (s.root.emissionDue = false → spacing ≤ count → 32 ≤ s.root.outstanding.length →
      s.cadence spacing = s.setRoot { s.root with
        emissionCount := 0, emissionDue := true, deferredCount := min (s.root.deferredCount + 1) 65535 }) ∧
    (s.root.emissionDue = true → 32 ≤ s.root.outstanding.length → s.cadence spacing = s) ∧
    (s.root.emissionDue = true → s.root.outstanding.length < 32 →
      s.cadence spacing = (s.setRoot { s.root with emissionDue := false }).emit) := by
  refine ⟨fun hdue hlt => cadence_counts hrole hn hdue hlt, fun hdue hle hroom => ?_, fun hdue hle hfull => ?_,
    fun hdue hfull => ?_, fun hdue hroom => ?_⟩
  · rw [cadence_reaches hrole hn hdue hle]
    exact emitOrDefer_of_room hroom
  · rw [cadence_reaches hrole hn hdue hle]
    exact emitOrDefer_of_full hfull
  · rw [cadence_due hrole hn hdue, emitDeferred_of_full hfull]
  · rw [cadence_due hrole hn hdue, emitDeferred_of_room hroom]

/-! ### At rest -/

/-- No step is taken and no grant raised: the run states but RUN and HALTING. -/
def Rests (s : State) : Prop := s.seq.runState ≠ .run ∧ s.seq.runState ≠ .halting

theorem processRecord_rests (h : s.Rests) (r : RequestRecord) : (s.processRecord r).Rests := by
  obtain ⟨hrun, hhalting⟩ := h
  unfold processRecord
  split
  case h_2 | h_3 => exact absurd ‹_› hrun
  case h_4 | h_7 => exact absurd ‹_› hhalting
  case h_5 | h_6 | h_8 | h_9 =>
    unfold addSecondary escalate
    dsimp only
    split <;> simp_all [Rests]
  all_goals exact ⟨hrun, hhalting⟩

theorem takeOwnRequest_rests (h : s.Rests) : s.takeOwnRequest.Rests := by
  unfold takeOwnRequest
  split
  · exact h
  · next source p _ => exact processRecord_rests (s := s.setRequests (s.requests.release source)) h _

/-- An emission outside RUN is the root's own request and the frame (R132). -/
theorem emit_of_rests (h : s.Rests) : s.emit = s.takeOwnRequest.sendBeat := by
  obtain ⟨hrun, -⟩ := takeOwnRequest_rests h
  simp [emit, hrun]

theorem emit_rests (h : s.Rests) : s.emit.Rests := by
  rw [emit_of_rests h]
  exact takeOwnRequest_rests h

theorem cadence_rests (h : s.Rests) (spacing : Nat) : (s.cadence spacing).Rests := by
  unfold cadence emitDeferred emitOrDefer
  (repeat' split) <;> first
    | exact h
    | exact emit_rests (s := s.setRoot _) h

/-! ### The pace in force is not read by an emission -/

/-- The sequencer with another pace in force. -/
def setPace (s : State) (pace : Nat) : State := s.setSeq { s.seq with paceInForce := pace }

theorem processRecord_setPace (s : State) (pace : Nat) (r : RequestRecord) :
    (s.setPace pace).processRecord r = (s.processRecord r).setPace pace := by
  have hstate : (s.setPace pace).seq.runState = s.seq.runState := rfl
  unfold processRecord
  rw [hstate]
  split
  case h_4 | h_5 | h_6 | h_7 | h_8 | h_9 =>
    unfold addSecondary
    dsimp only
    split <;> split <;> first | rfl | contradiction
  all_goals rfl

theorem takeOwnRequest_setPace (s : State) (pace : Nat) :
    (s.setPace pace).takeOwnRequest = s.takeOwnRequest.setPace pace := by
  have hbest : (s.setPace pace).requests = s.requests := rfl
  unfold takeOwnRequest
  rw [hbest]
  split
  · rfl
  · next source p _ => exact processRecord_setPace (s.setRequests (s.requests.release source)) pace _

theorem emit_setPace (h : s.Rests) (pace : Nat) : (s.setPace pace).emit = s.emit.setPace pace := by
  rw [emit_of_rests h, emit_of_rests (s := s.setPace pace) h, takeOwnRequest_setPace]
  rfl

theorem paceLoaded_eq (s : State) : s.paceLoaded = s.setPace s.plan.live.header.pace := rfl

/-- At rest, in either order, a strobe is its cadence (R4, R130). -/
theorem strobe_of_rests (h : s.Rests) (watch : BitVec 16) (order : StrobeOrder) :
    s.strobe watch order = (s.struck.cadence s.plan.live.header.spacing).setPace s.plan.live.header.pace := by
  have hacts (u : State) (hu : u.Rests) : u.actOnStrobe watch = u := actOnStrobe_rests hu.1 hu.2 watch
  have hloaded : (s.struck.cadence s.plan.live.header.spacing).paceLoaded =
      (s.struck.cadence s.plan.live.header.spacing).setPace s.plan.live.header.pace := by
    simp [paceLoaded_eq]
  cases order
  · rw [strobe_stepFirst, hacts s.struck h, hloaded]
  · rw [strobe_emissionFirst, hacts _ (cadence_rests (s := s.struck) h _), hloaded]

end State

/-- Settles O45: the two orders as `strobe` writes them, what `actOnStrobe` does at the root, `cadence_spec`, and, at rest, the strobe that
is its cadence alone. -/
theorem rootStrobeCadence : Obligations.RootStrobeCadence := by
  refine ⟨fun s watch hrole hpresent hcold => ⟨?_, ?_⟩, fun s watch hrole => ⟨fun hrun hlt => ?_, fun f hstate hf hlt hgrant => ?_,
    fun hstate h => State.actOnStrobe_waits hstate h.symm watch, fun hrun hhalting => State.actOnStrobe_rests hrun hhalting watch⟩,
    fun s spacing hrole => ⟨fun hidle => ?_, fun hcold hidle => ?_⟩, fun s watch order hrole hpresent hstate => ?_⟩
  · exact State.exec_paceStrobe hcold hpresent watch .stepFirst
  · exact State.exec_paceStrobe hcold hpresent watch .emissionFirst
  · exact State.actOnStrobe_run hrun hlt watch
  · rw [State.actOnStrobe_halting hstate hf hlt hgrant]
    have hroot : (s.takeStep watch).seq.role = .root := (s.takeStep_steps hgrant watch).role.trans hrole
    simp [State.endHalting, hroot]
  · simp [State.cadence, hidle, RunState.numbered]
  · have hn := (State.numbered_iff _).mpr ⟨hcold, hidle⟩
    obtain ⟨hcounts, hemits, hdefers, hfull, hdeferred⟩ := State.cadence_spec hrole hn spacing
    refine ⟨hcounts, hemits, hdefers, hfull, fun hdue hroom => ⟨hdeferred hdue hroom, fun hpresent => ?_⟩⟩
    have hready : s.deferredEmissionReady = true :=
      State.deferredEmissionReady_eq_true.mpr ⟨by simp [Sequencer.strobes, hcold, hpresent], hrole, hn, hdue, hroom⟩
    simp [exec, execDeferredEmission, hready, State.emitDeferred_of_room hroom]
  · have hrests : s.Rests := by rcases hstate with h | h | h | h <;> simp [State.Rests, h]
    have hn : s.seq.runState.numbered = true := by rcases hstate with h | h | h | h <;> simp [h, RunState.numbered]
    obtain ⟨hcold, -⟩ := (State.numbered_iff _).mp hn
    obtain ⟨hcounts, hemits, hdefers, hfull, hdeferred⟩ := State.cadence_spec (s := s.struck) hrole hn s.plan.live.header.spacing
    rw [State.exec_paceStrobe hcold hpresent, State.strobe_of_rests hrests]
    refine ⟨fun hdue hlt => ?_, fun hdue hle hroom => ?_, fun hdue hle hlen => ?_, fun hdue hlen => ?_, fun hdue hroom => ?_⟩
    · rw [hcounts hdue hlt]; rfl
    · rw [hemits hdue hle hroom, ← State.emit_setPace (s := s.struck.setRoot _) hrests]; rfl
    · rw [hdefers hdue hle hlen]; rfl
    · rw [hfull hdue hlen]; rfl
    · rw [hdeferred hdue hroom, ← State.emit_setPace (s := s.struck.setRoot _) hrests]; rfl

end Sys2Proof.Machine
end

section
/-! SUPPORT. Frames at a follower (R10, R19, R119, R126) and ENUM frames at the root (R127). -/

namespace Sys2Proof.Machine

/-! ### ENUM frames -/

namespace State

variable {s : State}

/-- A frame that ring-in receives is taken with ring-in done (R110). -/
theorem onArrival_received (h : s.handler.receives = true) (act : State → State) : s.onArrival act = act s.received := by
  simp [onArrival, h, received]

theorem takeEnum_follower (h : s.seq.role = .follower) (f : EnumFrame) : s.takeEnum f = s.takePosition f := by
  simp [takeEnum, h]

theorem takeEnum_root (h : s.seq.role = .root) (f : EnumFrame) : s.takeEnum f = s.endEnumeration f := by
  simp [takeEnum, h]

/-- A follower takes the position that is left (R21, R126). -/
theorem takePosition_left {f : EnumFrame} {p : Fin 63} (h : enumPosition f = p.val) :
    s.takePosition f =
      ((s.setSeq { s.seq with runState := .ready, originNumber := none, haltStep := none, haltKind := .pause }).setHandler
        { s.handler with position := some p }).hand
          (writtenEnum { reserved := 0, nextPosition := BitVec.ofNat 6 (p.val + 1), excessCount := f.excessCount }) := by
  have hlt : enumPosition f < 63 := by omega
  obtain rfl : p = ⟨enumPosition f, hlt⟩ := Fin.ext h.symm
  unfold takePosition
  rw [dif_pos hlt]
  rfl

/-- With none left it becomes IDLE without a position (R21, R126). -/
theorem takePosition_none {f : EnumFrame} (h : ¬ enumPosition f < 63) :
    s.takePosition f =
      ((s.setSeq { s.seq with runState := .idle, originNumber := none, haltStep := none }).setHandler
        { s.handler with position := none }).hand
          (writtenEnum
            { reserved := 0, nextPosition := 63, excessCount := BitVec.ofNat 8 (min (f.excessCount.toNat + 1) 255) }) := by
  unfold takePosition
  rw [dif_neg h]
  rfl

end State

/-- Settles O41: `takePosition` with and without a position left, `endEnumeration`, and the timeout. -/
theorem enumFrames : Obligations.EnumFrames := by
  have hfollower (s : State) (f : EnumFrame) (hin : s.handler.receives = true) (hrole : s.seq.role = .follower) :
      exec (.enumFrameAtFollower f) s = .next (s.received.takePosition f) := by
    rw [← State.takeEnum_follower (s := s.received) hrole, ← State.onArrival_received hin fun t => t.takeEnum f]
    rfl
  have hroot (s : State) (f : EnumFrame) (hin : s.handler.receives = true) (hrole : s.seq.role = .root) :
      exec (.enumFrameAtRoot f) s = .next (s.received.endEnumeration f) := by
    rw [← State.takeEnum_root (s := s.received) hrole, ← State.onArrival_received hin fun t => t.takeEnum f]
    rfl
  refine ⟨fun s f hin hrole => ⟨fun p hp hnext => ?_, fun hnone => ?_⟩,
    fun s f hin hrole => ⟨fun hout => ?_, fun hout => ?_⟩, fun s hout => ?_⟩
  · have hposition : enumPosition f = p.val := by
      unfold enumPosition; split <;> simp_all
    rw [hfollower s f hin hrole, State.takePosition_left hposition]
    rfl
  · have hposition : ¬ enumPosition f < 63 := by
      unfold enumPosition; rcases hnone with h | h <;> simp [h]
    rw [hfollower s f hin hrole, State.takePosition_none hposition]
    rfl
  · rw [hroot s f hin hrole]
    exact congrArg Host.Outcome.next (if_pos hout)
  · rw [hroot s f hin hrole]
    exact congrArg Host.Outcome.next (if_neg (by simp [State.received, hout]))
  · exact ⟨max s.handler.enumerationTimer s.plan.live.header.returnTimeout, by simp [exec, execEnumerationTimeout, hout, State.loseEnumeration]⟩

/-! ### Origin (R19, R160) -/

namespace State

variable (s : State)

/-- What an origin leaves in the plan store (R160). -/
theorem performOrigin_plan (number : Nat) : (s.performOrigin number).plan = s.plan.atOrigin := by
  simp [performOrigin]

/-- The tracks after an origin restart from the records that are then live (R43). -/
theorem performOrigin_tracks (number : Nat) :
    (s.performOrigin number).tracks = restartTracks s.plan.atOrigin.live.tracks := by
  simp [performOrigin, restartBlocks]

theorem performOrigin_lanes (number : Nat) :
    (s.performOrigin number).lanes = fillLanes s.plan.atOrigin.live.lanes (restartTracks s.plan.atOrigin.live.tracks) 0 := by
  simp [performOrigin, restartBlocks, Sequencer.atOrigin_eq]

theorem performOrigin_cells (number : Nat) :
    (s.performOrigin number).cells =
      restartCells s.plan.atOrigin.live.cells s.cells (fun _ => true) (restartTracks s.plan.atOrigin.live.tracks)
        (Vector.replicate 8 false) := by
  simp [performOrigin, restartBlocks]

theorem performOrigin_events (number : Nat) : (s.performOrigin number).events = s.events.atOrigin := by
  simp [performOrigin]

theorem performOrigin_requests (number : Nat) :
    (s.performOrigin number).requests =
      if s.plan.originClamps = 0 then s.requests.emptied else s.requests.emptied.raise 34 s.requests.clampKind 0 := by
  simp only [performOrigin, raiseClamps]
  split <;> rfl

end State

/-- A pending activation's record clamps at an origin (R160). -/
theorem PlanStore.originClamps_eq (p : PlanStore) :
    p.originClamps = if p.pendingActivation = none then 0 else p.staged.recordClamps := by
  unfold originClamps
  cases p.pendingActivation <;> simp

/-- The event table at origin, entry by entry (R93). -/
theorem EventTable.atOrigin_entry (t : EventTable) (i : Fin 32) :
    t.atOrigin.entries[i] = { t.entries[i] with done := false, hits := 0, remaining := (t.entries[i]).limit } := by
  simp [atOrigin, EventEntry.atOrigin]

theorem EventTable.atOrigin_flags (t : EventTable) (g : Fin 8) : t.atOrigin.gates[g] = false ∧ t.atOrigin.markers[g] = false := by
  simp [atOrigin]

/-! ### A beat frame at a follower (R119) -/

/-- The length, the check and the type of a good beat frame let it through to the follower's reading. -/
theorem State.exec_beatFrame {s : State} {bytes : List Byte} (hin : s.handler.receives = true) (hrole : s.seq.role = .follower)
    (hb : BeatBytes bytes) : exec (.beatFrameAtFollower bytes) s = .next (s.received.passBeat bytes) := by
  obtain ⟨hlength, hgood, htype, hpossible⟩ := hb
  have htake : bytes.take 62 = bytes := List.take_of_length_le (by omega)
  have hframe : s.received.takeFrame bytes = s.received.passBeat bytes := by
    have hrole' : s.received.seq.role = .follower := hrole
    simp [takeFrame, htake, hgood, dispatch, htype, hpossible, dispatchBeat, hrole']
  rw [← hframe, ← onArrival_received hin fun t => t.takeFrame bytes]
  rfl

/-- When a frame makes a follower perform origin (R10). -/
theorem Sequencer.mustOrigin_iff (q : Sequencer) (f : BeatFields) :
    q.mustOrigin f = true ↔ q.runState.numbered = true ∧ f.originFlag = true ∧ q.originNumber ≠ some f.originNumber := by
  simp [mustOrigin, and_assoc]

/-- The reached value, field by field (R10, R122). -/
theorem Sequencer.reached_iff (q : Sequencer) (f : BeatFields) :
    q.reached f = true ↔
      q.originNumber ≠ none ∧ q.runState ∈ [.ready, .run, .halting, .halted, .broken] ∧ f.mode = .halt ∧ q.step = f.haltStep := by
  have hreads : q.runState.readsGrant = true ↔ q.runState ∈ [.ready, .run, .halting, .halted, .broken] := by
    cases q.runState <;> simp [RunState.readsGrant]
  simp [reached, synchronised, Option.isSome_iff_ne_none, ← hreads, and_assoc]

/-- The unsync value, field by field (R122). -/
theorem Sequencer.unsync_iff (q : Sequencer) :
    q.unsync = true ↔
      q.runState = .idle ∨ q.runState = .stranded ∨ q.runState.numbered = true ∧ q.originNumber = none := by
  simp [unsync, synchronised, or_assoc]

/-- With nothing pending there is no best record (R104). -/
theorem RequestUnit.best_eq_none {u : RequestUnit} (h : ∀ i : Fin 36, u.waiting[i] = none) : u.best = none := by
  have hfold (sources : List (Fin 36)) : sources.foldl (betterRequest u) none = none := by
    induction sources with
    | nil => rfl
    | cons i rest ih =>
      have hi : betterRequest u none i = none := by simp only [betterRequest, h i]
      rw [List.foldl_cons, hi, ih]
  exact hfold _

/-- A follower with nothing pending passes the frame as it is (R103). -/
theorem State.placeRequest_of_none {s : State} (h : ∀ i : Fin 36, s.requests.waiting[i] = none) (bytes : List Byte) :
    s.placeRequest bytes = (s, bytes) := by
  unfold placeRequest
  rw [RequestUnit.best_eq_none h]
  split <;> simp_all

/-- Placement changes nothing but the request unit (R103). -/
theorem State.placeRequest_frame (s : State) (bytes : List Byte) :
    ∃ u, (s.placeRequest bytes).1 = s.setRequests u := by
  unfold placeRequest
  (repeat' split) <;> exact ⟨_, rfl⟩

/-- A frame that announces nothing new is not recorded (R155). -/
theorem State.readActivation_of_not_learns {s : State} {f : BeatFields} (h : s.plan.learns f = false) (origin : Bool) :
    s.readActivation f origin = s := by
  simp [readActivation, h]

/-- The follower's reading of a beat frame that performs no origin (R10). -/
theorem State.readBeatFields_of_not_mustOrigin {s : State} {f : BeatFields} (h : s.seq.mustOrigin f = false) :
    s.readBeatFields f =
      s.setSeq
        (({ s.seq with watchdog := .running s.clock.time s.plan.live.header.beatTimeout } : Sequencer).readFields f) := by
  rw [readBeatFields_eq, originRead, if_neg (by simp [h])]
  rfl

/-- Settles O37: `exec_beatFrame` and the values of `passBeat`, item by item; without origin, activation and request only the
sequencer and ring-out are left. -/
theorem beatFrameAtFollower : Obligations.BeatFrameAtFollower := by
  refine ⟨fun s bytes hin hrole hb => ?_, fun s bytes hin hrole hb hno hlearns hnone => ?_⟩
  · dsimp only
    refine ⟨s.seq.mustOrigin_iff (readBeat bytes), ?_⟩
    rw [State.exec_beatFrame hin hrole hb]
    simp only [← Sequencer.reached_iff, ← Sequencer.unsync_iff, ← Sequencer.mustOrigin_iff, Bool.decide_eq_true]
    rfl
  · have hread := State.readBeatFields_of_not_mustOrigin (s := s.received) hno
    rw [State.exec_beatFrame hin hrole hb]
    unfold State.passBeat
    dsimp only
    rw [hread, State.readActivation_of_not_learns (s := s.received.setSeq _) hlearns,
      State.placeRequest_of_none (s := s.received.setSeq _) hnone]
    rfl

end Sys2Proof.Machine
end

section
/-! SUPPORT. A part performs origin, and a follower does so at a beat frame (R10, R19, R160). -/

namespace Sys2Proof.Machine

/-! ### A part performs origin -/

/-- What performing origin does, item by item (R19, R160). -/
theorem State.performOrigin_spec (s : State) (number : Nat) :
    let t := s.performOrigin number
    let clamps := if s.plan.pendingActivation = none then 0 else s.plan.staged.recordClamps
    t.seq = { s.seq with
      step := 0, grant := 0, haltStep := none, haltKind := .pause, originNumber := some number, runState := .ready
      ringSilent := false, referenceLost := false
      watchdog := if s.seq.role = .follower then .running s.clock.time s.plan.live.header.beatTimeout else s.seq.watchdog } ∧
    (s.plan.pendingActivation = none → t.plan = s.plan) ∧
    (∀ a, s.plan.pendingActivation = some a → t.plan = { s.plan with
      live := s.plan.staged.clamped, liveStage := a.stage, pendingActivation := none, clampsAtLast := clamps }) ∧
    (∀ i : Fin 24, t.tracks[i] = (t.plan.live.tracks[i]).restarted) ∧
    t.lanes = fillLanes t.plan.live.lanes t.tracks 0 ∧
    t.cells = restartCells t.plan.live.cells s.cells (fun _ => true) t.tracks (Vector.replicate 8 false) ∧
    (∀ i : Fin 32, t.events.entries[i] =
      { s.events.entries[i] with done := false, hits := 0, remaining := (s.events.entries[i]).limit }) ∧
    (∀ g : Fin 8, t.events.gates[g] = false ∧ t.events.markers[g] = false) ∧
    (let emptied := { s.requests with waiting := Vector.replicate 36 none }
     t.requests = if clamps = 0 then emptied else emptied.raise 34 s.requests.clampKind 0) ∧
    t.handler = s.handler ∧ t.root = s.root ∧ t.cursor = s.cursor ∧ t.clock = s.clock ∧ t.pending = s.pending := by
  dsimp only
  refine ⟨?_, fun h => ?_, fun a h => ?_, fun i => ?_, ?_, ?_, fun i => ?_, fun g => ?_, ?_, s.performOrigin_frame number⟩
  · rw [performOrigin_seq, Sequencer.atOrigin_eq]
  · rw [performOrigin_plan, PlanStore.atOrigin, h]
  · simp [performOrigin_plan, PlanStore.atOrigin, h, PlanStore.applied]
  · simp [performOrigin_tracks, performOrigin_plan, restartTracks]
  · rw [performOrigin_lanes, performOrigin_tracks, performOrigin_plan]
  · rw [performOrigin_cells, performOrigin_tracks, performOrigin_plan]
  · rw [performOrigin_events, EventTable.atOrigin_entry]
  · rw [performOrigin_events]; exact s.events.atOrigin_flags g
  · rw [performOrigin_requests, PlanStore.originClamps_eq]; rfl

/-- The watchdog's restart just before an origin at a follower leaves the origin as it is (R10, R17). -/
theorem State.watchdogRestarted_performOrigin {s : State} (h : s.seq.role = .follower) (number : Nat) :
    s.watchdogRestarted.performOrigin number = s.performOrigin number := by
  have hq (now timeout : Nat) : (s.seq.restartWatchdog now timeout).atOrigin number now timeout = s.seq.atOrigin number now timeout := by
    simp [Sequencer.atOrigin_eq, Sequencer.restartWatchdog, h]
  simp only [performOrigin, watchdogRestarted, setSeq_setSeq, setSeq_plan, setSeq_clock, setSeq_seq, hq]

/-- A follower that must perform origin has performed it when it reads the grant, halt and mode fields (R10). -/
theorem State.readBeatFields_of_mustOrigin {s : State} {f : BeatFields} (hrole : s.seq.role = .follower)
    (h : s.seq.mustOrigin f = true) :
    s.readBeatFields f =
      (s.performOrigin f.originNumber).setSeq ((s.performOrigin f.originNumber).seq.readFields f) := by
  rw [readBeatFields_eq, originRead, if_pos h, watchdogRestarted_performOrigin hrole]

/-- The run state that a follower which has just performed origin enters by the fields of the same frame (R10 to R14). -/
def BeatFields.stateAfterOrigin (f : BeatFields) : RunState :=
  match f.mode with
  | .ready => .ready
  | .run => if 0 < f.grant then .run else .ready
  | .halt => if 0 < f.haltStep then .halting else if f.haltKind = .brk then .broken else .halted

/-- The fields read right after an origin, in READY with C and G at 0. -/
theorem State.readFields_performOrigin (s : State) (f : BeatFields) (number : Nat) :
    (s.performOrigin number).seq.readFields f = { (s.performOrigin number).seq with
      grant := f.grant
      haltStep := if f.mode = .halt then some f.haltStep else none
      haltKind := if f.mode = .halt then f.haltKind else .pause
      runState := f.stateAfterOrigin } := by
  have hreads : (s.performOrigin number).seq.runState.readsGrant = true := by simp [Sequencer.atOrigin_eq, RunState.readsGrant]
  have hsync : (s.performOrigin number).seq.originNumber ≠ none := by simp [Sequencer.atOrigin_eq]
  cases hm : f.mode
  case ready =>
    rw [Sequencer.readFields_ready hreads hsync hm, Sequencer.readGrant_eq (by simp [hm])]
    simp [Sequencer.readReady, Sequencer.atOrigin_eq, BeatFields.stateAfterOrigin, hm]
  case run =>
    rw [Sequencer.readFields_run hreads hsync hm, Sequencer.readGrant_eq (by simp [hm])]
    by_cases hg : 0 < f.grant <;> simp [Sequencer.readRun, Sequencer.atOrigin_eq, BeatFields.stateAfterOrigin, hm, hg]
  case halt =>
    rw [Sequencer.readFields_halt hreads hsync hm, Sequencer.readGrant_halt hm]
    by_cases hf : 0 < f.haltStep
    · simp [Sequencer.readHalt, Sequencer.atOrigin_eq, BeatFields.stateAfterOrigin, hm, hf]
    · cases hk : f.haltKind <;> simp [Sequencer.readHalt, Sequencer.atOrigin_eq, BeatFields.stateAfterOrigin, hm, hk, hf, HaltKind.endState] <;> omega

/-- Settles O38: `performOrigin_spec`; and the follower's frame is that origin, then `readFields_performOrigin`, a placement at most, and
the forwarding. -/
theorem followerPerformsOrigin : Obligations.FollowerPerformsOrigin := by
  refine ⟨State.performOrigin_spec, fun s bytes hin hrole hb ho => ?_⟩
  let f := readBeat bytes
  let o := s.performOrigin f.originNumber
  let r := (o.setSeq (o.seq.readFields f)).setReception .between
  have hread : s.received.readBeatFields f = r := by
    rw [State.received, State.readBeatFields_setReception, State.readBeatFields_of_mustOrigin hrole ho]
  refine ⟨_, State.exec_beatFrame hin hrole hb, ?_⟩
  unfold State.passBeat
  dsimp only
  rw [hread]
  obtain ⟨requests, hplaced⟩ := (r.readActivation f (s.received.seq.mustOrigin f)).placeRequest_frame bytes
  rw [hplaced]
  refine ⟨.trans (by simp [r, o]) (s.readFields_performOrigin f f.originNumber), by simp [r, o, f], by simp [r, o], by simp [r, o],
    by simp [r, o], fun hlearns => ?_⟩
  have hplan : r.readActivation f (s.received.seq.mustOrigin f) = r := State.readActivation_of_not_learns (s := r) hlearns _
  rw [hplan] at hplaced ⊢
  refine ⟨rfl, rfl, rfl, rfl, fun hnone => ?_⟩
  rw [State.placeRequest_of_none (s := r) hnone] at hplaced
  exact (congrArg State.requests hplaced).symm

end Sys2Proof.Machine
end

section
/-! SUPPORT. The two timeouts, at their own events and after an activation (R17, R136, R159). -/

namespace Sys2Proof.Machine

/-! ### The beat watchdog -/

/-- The event of a watchdog that is due is its expiry (R17). -/
theorem State.exec_beatWatchdogExpiry_of_due {s : State} (h : s.watchdogOverdue = true) :
    exec .beatWatchdogExpiry s = .next s.expireWatchdog := by
  show execBeatWatchdogExpiry s = _
  rw [execBeatWatchdogExpiry, if_pos h]

/-- A watchdog that is not due does not expire (R17). -/
theorem State.exec_beatWatchdogExpiry_of_not_due {s : State} (h : s.seq.watchdog.isDue s.clock.time = false) :
    exec .beatWatchdogExpiry s = .next s := by
  have hdue : ¬ s.watchdogOverdue = true := by simp [watchdogOverdue, h]
  show execBeatWatchdogExpiry s = _
  rw [execBeatWatchdogExpiry, if_neg hdue]

/-- The watchdog's expiry strands a follower in RUN or HALTING, and latches ring silent in every other state (R17). -/
theorem State.expireWatchdog_spec {s : State} (hrole : s.seq.role = .follower) :
    let q : Sequencer := { s.seq with watchdog := .expired, silenceCount := min (s.seq.silenceCount + 1) 65535 }
    (s.seq.runState = .run ∨ s.seq.runState = .halting → s.expireWatchdog = s.setSeq { q with runState := .stranded }) ∧
    (s.seq.runState ≠ .run → s.seq.runState ≠ .halting → s.expireWatchdog = s.setSeq { q with ringSilent := true }) := by
  dsimp only
  refine ⟨fun hmoving => ?_, fun hrun hhalting => ?_⟩
  · have hstrands : s.expireWatchdog =
        (s.setSeq { s.seq with watchdog := .expired, silenceCount := raiseCount s.seq.silenceCount 1 }).enterStranded := by
      obtain hrun | hhalting := hmoving
      · simp only [expireWatchdog, hrun]
      · simp only [expireWatchdog, hhalting]
    exact hstrands.trans (enterStranded_of_follower hrole)
  · unfold expireWatchdog
    split
    case h_1 h => exact absurd h hrun
    case h_2 h => exact absurd h hhalting
    all_goals rfl

/-! ### The return timeout -/

/-- The event of a return timeout that is due loses every frame listed (R136). -/
theorem State.exec_returnTimeout_of_due {s : State} (h : s.returnOverdue = true) :
    exec .returnTimeout s = .next s.returnTimedOut := by
  show execReturnTimeout s = _
  rw [execReturnTimeout, if_pos h]

/-- A return timeout that is not due does not expire (R136). -/
theorem State.exec_returnTimeout_of_not_due {s : State} (h : s.returnOverdue = false) : exec .returnTimeout s = .next s := by
  show execReturnTimeout s = _
  rw [execReturnTimeout, if_neg (by simp [h])]

/-- Outside RUN and HALTING the return timeout only empties the list and latches ring silent (R136). -/
theorem State.returnTimedOut_of_not_moving {s : State} (hrun : s.seq.runState ≠ .run) (hhalting : s.seq.runState ≠ .halting) :
    s.returnTimedOut = s.silenced := by
  rw [returnTimedOut_eq]
  split
  case h_1 h => exact absurd h hrun
  case h_2 h => exact absurd h hhalting
  all_goals rfl

/-- In RUN the return timeout decides the halt, with a BREAK of code 43 as its primary (R136, R139). -/
theorem State.returnTimedOut_of_run {s : State} (h : s.seq.runState = .run) :
    s.returnTimedOut = s.silenced.decideHalt (localCause 43 .brk s.seq.step) := by
  have hrun : s.silenced.seq.runState = .run := h
  simp only [returnTimedOut_eq, h, processRecord, hrun, localCause]

/-- In HALTING the return timeout is a secondary, and the root is stranded (R136, R140, R142). -/
theorem State.returnTimedOut_of_halting {s : State} (h : s.seq.runState = .halting) :
    s.returnTimedOut = (s.silenced.addSecondary (localCause 43 .brk s.seq.step)).enterStranded := by
  have hhalting : s.silenced.seq.runState = .halting := h
  simp only [returnTimedOut_eq, h, processRecord, hhalting, localCause]

/-- A secondary that joins the record leaves its kind (R140). -/
theorem HaltRecord.append_kind (h : HaltRecord) (n : LoggedRequest) : (h.append n).kind = h.kind := by
  unfold append
  split <;> rfl

/-- A BREAK as a secondary in HALTING joins the record and makes the halt a BREAK (R140). -/
theorem State.addSecondary_brk {s : State} (h : s.seq.runState = .halting) {record : RequestRecord} (hbrk : record.kind = .brk) :
    let joined := s.root.haltRecord.append { request := record, arrivalStep := s.seq.step, late := false }
    s.addSecondary record =
      (s.setRoot { s.root with
          haltRecord := { joined with kind := if s.seq.haltKind = .pause then .brk else s.root.haltRecord.kind } }).setSeq
        { s.seq with haltKind := .brk } := by
  have hlate : (s.seq.runState == .halted || s.seq.runState == .broken) = false := by rw [h]; rfl
  unfold addSecondary
  rw [hlate]
  cases hk : s.seq.haltKind
  case pause => simp [escalate, hbrk, h]
  case brk =>
    have hseq : { s.seq with haltKind := .brk } = s.seq := by rw [← hk]
    simp only [hbrk, reduceCtorEq, and_false, if_false, hseq]
    rw [← s.root.haltRecord.append_kind { request := record, arrivalStep := s.seq.step, late := false }]
    rfl

/-- Once the list is empty no return timeout is due; so the enumeration timer is compared as before (R127, R159). -/
theorem State.enumerationOverdue_returnTimedOut {s : State} (hrole : s.seq.role = .root) :
    s.returnTimedOut.enumerationOverdue = s.enumerationOverdue := by
  have hrole' : s.returnTimedOut.seq.role = s.seq.role := (returnTimedOut_carries s hrole (R := True)).role
  simp [enumerationOverdue, hrole']

/-- Settles O48: the watchdog by `expireWatchdog_spec`; the return timeout by run state; and after an activation by which of the two is
overdue. -/
theorem timersExpire : Obligations.TimersExpire := by
  refine ⟨fun s => ⟨fun since limit hrole hcold hw => ?_, fun hw => ?_⟩, fun s hrole => ⟨fun hnil => ?_, fun e rest he => ?_⟩,
    fun s hrole => ?_⟩
  · obtain ⟨hmoving, hrest⟩ := State.expireWatchdog_spec hrole
    have hdue (h : limit ≤ s.clock.time - since) : exec .beatWatchdogExpiry s = .next s.expireWatchdog :=
      State.exec_beatWatchdogExpiry_of_due (s.watchdogOverdue_iff.2 ⟨hrole, hcold, since, limit, hw, h⟩)
    refine ⟨fun h => ?_, fun h hstate => ?_, fun h hrun hhalting => ?_⟩
    · exact State.exec_beatWatchdogExpiry_of_not_due (by simp [hw, Watchdog.isDue, h])
    · rw [hdue h, hmoving hstate]
    · rw [hdue h, hrest hrun hhalting]
  · exact State.exec_beatWatchdogExpiry_of_not_due (by obtain h | h := hw <;> simp [h, Watchdog.isDue])
  · exact State.exec_returnTimeout_of_not_due (by simp [State.returnOverdue, hnil])
  · have hdue (h : s.plan.live.header.returnTimeout ≤ s.clock.time - e.emissionTime) :=
      State.exec_returnTimeout_of_due (s.returnOverdue_iff.2 ⟨hrole, e, rest, he, h⟩)
    refine ⟨fun h => ?_, fun h => ⟨fun hrun hhalting => ?_, fun hrun => ?_, fun hhalting => ?_⟩⟩
    · exact State.exec_returnTimeout_of_not_due (by simp [State.returnOverdue, State.oldestAge, he, h])
    · rw [hdue h, State.returnTimedOut_of_not_moving hrun hhalting]
      rfl
    · rw [hdue h, State.returnTimedOut_of_run hrun]
      rfl
    · rw [hdue h, State.returnTimedOut_of_halting hhalting, State.addSecondary_brk (s := s.silenced) hhalting rfl]
      exact congrArg Host.Outcome.next (State.enterStranded_of_root hrole)
  · have hreturn := s.returnOverdue_iff
    have henum := s.enumerationOverdue_iff
    simp only [hrole, true_and] at hreturn henum
    have hlose {t : State} (h : t.enumerationOverdue = true) : exec .enumerationTimeout t = .next t.loseEnumeration := by
      show execEnumerationTimeout t = _
      rw [execEnumerationTimeout, if_pos (t.enumerationOverdue_iff.1 h).2.1]
    have hafter := State.enumerationOverdue_returnTimedOut hrole
    dsimp only
    rw [← hreturn, ← henum]
    refine ⟨fun hr he => ?_, fun hr he => ?_, fun hr he => ?_, fun hr he => ?_⟩
    · simp [State.expireOverdue, hr, he]
    · simp [State.expireOverdue, hr, he, hafter, State.exec_returnTimeout_of_due]
    · simp [State.expireOverdue, hr, he, hlose]
    · refine ⟨s.returnTimedOut, State.exec_returnTimeout_of_due hr, ?_⟩
      rw [hlose (hafter.trans he)]
      simp [State.expireOverdue, hr, he, hafter]

end Sys2Proof.Machine
end

section
/-! SUPPORT. ORIGIN and RESET_PART, and the restart without an origin (R22, R148, R149, R171). -/

namespace Sys2Proof.Machine

/-! ### The blocks reset without an origin (R22) -/

/-- What the reset of the blocks does, item by item (R22). -/
theorem State.resetBlocks_spec (s : State) :
    let t := s.resetBlocks
    let live := s.plan.live
    t.seq = { s.seq with
      step := 0, grant := 0, haltStep := none, haltKind := .pause
      runState := if s.seq.runState = .cold ∨ s.seq.runState = .idle then s.seq.runState else .ready
      originNumber := if s.seq.role = .follower then none else s.seq.originNumber
      ringSilent := false, referenceLost := false
      watchdog := if s.seq.role = .follower then .running s.clock.time live.header.beatTimeout else s.seq.watchdog } ∧
    (∀ i : Fin 24, t.tracks[i] = (live.tracks[i]).restarted) ∧
    (∀ i : Fin 32,
      (∀ k : Fin 16, (t.lanes[i]).history[k] = (live.lanes[i]).source.value t.tracks 0) ∧
      (t.lanes[i]).output = ((live.lanes[i]).source.value t.tracks 0 ^^ (live.lanes[i]).invert)) ∧
    (∀ i : Fin 16, t.cells[i] =
      { value := (live.cells[i]).truthValue
          (selected (fun _ => false) (fun k => (t.tracks[k]).level) (fun c => (live.cells[c]).initialOutput) (fun _ => false))
        timer := 0, output := (live.cells[i]).initialOutput, lastChange := .noChange }) ∧
    (∀ i : Fin 32, t.events.entries[i] =
      { s.events.entries[i] with done := false, hits := 0, remaining := (s.events.entries[i]).limit }) ∧
    (∀ g : Fin 8, t.events.gates[g] = false ∧ t.events.markers[g] = false) ∧
    t.requests = { s.requests with waiting := Vector.replicate 36 none } ∧
    t.plan = s.plan ∧ t.root = s.root ∧ t.handler = s.handler ∧ t.cursor = s.cursor ∧ t.clock = s.clock ∧ t.pending = s.pending := by
  dsimp only
  have hstep : (s.seq.atReset s.clock.time s.plan.live.header.beatTimeout).step = 0 := by rw [Sequencer.atReset_eq]
  have htracks : s.resetBlocks.tracks = restartTracks s.plan.live.tracks := rfl
  have hlanes : s.resetBlocks.lanes = fillLanes s.plan.live.lanes s.resetBlocks.tracks 0 := by
    rw [← hstep]; rfl
  have hcells : s.resetBlocks.cells =
      restartCells s.plan.live.cells s.cells (fun _ => true) s.resetBlocks.tracks (Vector.replicate 8 false) := rfl
  have hevents : s.resetBlocks.events = s.events.atOrigin := rfl
  refine ⟨?_, fun i => ?_, fun i => ⟨fun k => ?_, ?_⟩, fun i => ?_, fun i => ?_, fun g => ?_, rfl, by simp⟩
  · rw [resetBlocks_seq, Sequencer.atReset_eq]
    cases hstate : s.seq.runState <;> rfl
  · simp [htracks, restartTracks]
  · simp [hlanes, fillLanes, LaneRecord.filled]
  · simp [hlanes, fillLanes, LaneRecord.filled, LaneRecord.outputOf]
  · simp [hcells, restartCells, CellConfig.restarted, restartInputs]
  · rw [hevents, EventTable.atOrigin_entry]
  · rw [hevents]; exact s.events.atOrigin_flags g

/-! ### An origin announced (R148) -/

/-- What the announcement of an origin adds to the origin performed (R148, R159). -/
theorem State.announceOrigin_spec (u : State) :
    u.announceOrigin =
      let number := match u.root.announcedOrigin with | none => 0 | some n => (n + 1) % 256
      let t := u.performOrigin number
      let a := (t.setRoot { u.root with
          announcedOrigin := some number, rootGrant := 0, target := none, originOutstanding := true
          haltRecord := { u.root.haltRecord with isOpen := false }
          outstanding := u.root.outstanding.map fun e =>
            { e with haltCurrent := false, originCurrent := false, numberingCurrent := false } }).setPlan
        { t.plan with announced := u.plan.announced.map fun a => { a with step := 0 } }
      if u.plan.pendingActivation = none then a else a.expireOverdue := by
  have hkept : u.plan.atOrigin.announced = u.plan.announced := by
    unfold PlanStore.atOrigin
    split <;> rfl
  cases hp : u.plan.pendingActivation
  all_goals
    rw [announceOrigin_eq, announced]
    simp [hp, hkept, performOrigin_plan, PlanStore.announceAtOrigin, RootTimebase.closeRecord, RootTimebase.clearCurrent]
    rfl

/-! ### ORIGIN and RESET_PART -/

/-- A command that succeeds at a part that may execute it: its state, and the frame answered OK (R163). -/
theorem State.TakesAlone.served {s t : State} {f : ServiceFrame} {c : CommandName} {value : Nat} (h : s.TakesAlone f)
    (hmay : s.seq.role = .root ∨ s.needsRoot c f = false) (hserved : s.received.perform c f = t.accept value) :
    s.serviceArrives c.code f = t.sent c.code (f.ok value) := by
  rw [h.serviceArrives, State.answer_eq_perform s.received f c h.2.1 hmay, hserved]
  rfl

/-- ORIGIN taken in a state that allows it, with no announcement outstanding (R148). -/
theorem State.serveOrigin_of_free {s : State}
    (hstate : s.seq.runState = .ready ∨ s.seq.runState = .halted ∨ s.seq.runState = .broken ∨ s.seq.runState = .stranded)
    (hfree : s.root.originOutstanding = false) : s.serveOrigin = s.announceOrigin.accept 0 := by
  obtain h | h | h | h := hstate
  all_goals simp [serveOrigin, h, hfree]

/-- RESET_PART at a part that takes the frame alone (R171). -/
theorem State.TakesAlone.exec_resetPart {s : State} {f : ServiceFrame} (h : s.TakesAlone f) :
    exec (.resetPart f) s = .next (s.received.resetPart.sent 0x0B (f.ok 0)) :=
  congrArg Host.Outcome.next (h.served (c := .resetPart) (.inr rfl) rfl)

/-- RESET_PART at a follower (R22). -/
theorem State.resetPart_of_follower {s : State} (h : s.seq.role = .follower) : s.resetPart = s.resetBlocks := by
  simp only [resetPart, h]

/-- RESET_PART at a root in IDLE (R149). -/
theorem State.resetPart_of_root_idle {s : State} (hrole : s.seq.role = .root) (h : s.seq.runState = .idle) :
    s.resetPart = (s.setRoot s.root.cleared).resetBlocks := by
  simp [resetPart, hrole, h, RunState.numbered]

/-- RESET_PART at a root in a numbered state (R149). -/
theorem State.resetPart_of_root_numbered {s : State} (hrole : s.seq.role = .root) (h : s.seq.runState.numbered = true) :
    s.resetPart = (s.setRoot s.root.cleared).announceOrigin := by
  simp [resetPart, hrole, h]

/-- Settles O59: ORIGIN by `announceOrigin_spec`, RESET_PART by role and run state, and the restart by `resetBlocks_spec`. -/
theorem originAndResetPart : Obligations.OriginAndResetPart := by
  dsimp only [Obligations.OriginAndResetPart]
  refine ⟨fun s f hf hrole hstate hfree => ?_, fun s f hf hrole => ?_,
    fun s f hf hrole => ⟨fun hidle => ?_, fun hidle hcold => ?_⟩, State.resetBlocks_spec⟩
  · have hserved := hf.served (c := .origin) (.inl hrole) (State.serveOrigin_of_free (s := s.received) hstate hfree)
    rw [State.announceOrigin_spec] at hserved
    exact congrArg Host.Outcome.next hserved
  · rw [hf.exec_resetPart, State.resetPart_of_follower (s := s.received) hrole]
  · rw [hf.exec_resetPart, State.resetPart_of_root_idle (s := s.received) hrole hidle]
    rfl
  · have hnumbered : s.received.seq.runState.numbered = true := (State.numbered_iff _).mpr ⟨hcold, hidle⟩
    rw [hf.exec_resetPart, State.resetPart_of_root_numbered (s := s.received) hrole hnumbered, State.announceOrigin_spec]
    rfl

end Sys2Proof.Machine
end

section
/-! SUPPORT. One track: its gate, an advance, the close-pending flag, a restart and an activation (R28, R29, R37 to R40, R43, R44). -/

namespace Sys2Proof.Machine

/-! ### The span of a level (R26) -/

@[simp] theorem TrackRecord.span_true (r : TrackRecord) : r.span true = r.high := rfl
@[simp] theorem TrackRecord.span_false (r : TrackRecord) : r.span false = r.low := rfl

theorem TrackRecord.span_pos {r : TrackRecord} (hhigh : 1 ≤ r.high) (hlow : 1 ≤ r.low) (level : Bool) : 1 ≤ r.span level := by
  cases level
  · exact hlow
  · exact hhigh

/-- The increment bound of R26 holds at the span of either level. -/
theorem TrackRecord.increment_le_span {r : TrackRecord} (h : r.increment ≤ min r.high r.low) (level : Bool) :
    r.increment ≤ r.span level := by
  cases level
  · exact h.trans (Nat.min_le_right _ _)
  · exact h.trans (Nat.min_le_left _ _)

/-! ### The gate and the taking of an advance (R28, R37 to R39) -/

theorem TrackRecord.advances_iff (r : TrackRecord) (isOpen parentRose level : Bool) :
    r.advances isOpen parentRose level = true ↔
      (r.mode = .free ∨ r.mode = .follow ∧ parentRose = true) ∧ r.gateAllows isOpen level = true := by
  cases h : r.mode <;> simp [advances, h]

theorem TrackRecord.gateAllows_open (r : TrackRecord) (level : Bool) : r.gateAllows true level = true := by
  simp [gateAllows]

theorem TrackRecord.gateAllows_hard {r : TrackRecord} (h : r.gateStyle = .hard) (level : Bool) :
    r.gateAllows false level = false := by
  simp [gateAllows, h]

theorem TrackRecord.gateAllows_clean {r : TrackRecord} (h : r.gateStyle = .clean) (level : Bool) :
    r.gateAllows false level = level := by
  simp [gateAllows, h]

/-- A track without a gate source is never held. -/
theorem TrackRecord.gateOpen_none {r : TrackRecord} (h : r.gateSource = .none) (flags : Vector Bool 8)
    (cells : Vector CellRun 16) : r.gateOpen flags cells = true := by
  simp [gateOpen, GateSource.read, h]

/-- The gate is the value read, as it is or complemented by the polarity. -/
theorem TrackRecord.gateOpen_of_read {r : TrackRecord} {flags : Vector Bool 8} {cells : Vector CellRun 16} {v : Bool}
    (h : r.gateSource.read flags cells = some v) :
    (r.gatePolarity = .openHigh → r.gateOpen flags cells = v) ∧ (r.gatePolarity = .openLow → r.gateOpen flags cells = !v) := by
  constructor <;> intro hp <;> simp [gateOpen, h, hp]

/-! ### The close-pending flag (R40) -/

theorem TrackRecord.closePendingAfter_cleared (r : TrackRecord) (old : Bool) {isOpen : Bool} (before : Bool) {after : Bool}
    (h : isOpen = true ∨ after = false) : r.closePendingAfter old isOpen before after = false := by
  rcases h with rfl | rfl <;> simp [closePendingAfter]

theorem TrackRecord.closePendingAfter_set {r : TrackRecord} (h : r.gateStyle = .clean) (old : Bool) :
    r.closePendingAfter old false true true = true := by
  simp [closePendingAfter, h]

theorem TrackRecord.closePendingAfter_kept {r : TrackRecord} {before : Bool} (h : r.gateStyle ≠ .clean ∨ before = false)
    (old : Bool) : r.closePendingAfter old false before true = old := by
  rcases h with h | rfl
  · simp [closePendingAfter, h]
  · simp [closePendingAfter]

/-- The flag is set after a step only in a high phase, and where it was set before or the gate is CLEAN. -/
theorem TrackRecord.closePendingAfter_true {r : TrackRecord} {old isOpen before after : Bool}
    (h : r.closePendingAfter old isOpen before after = true) : after = true ∧ (old = true ∨ r.gateStyle = .clean) := by
  unfold closePendingAfter at h
  split at h
  · cases h
  · have hafter : after = true := by simp_all
    split at h
    · exact ⟨hafter, .inr (by simp_all)⟩
    · exact ⟨hafter, .inl h⟩

/-! ### The advance (R29) -/

theorem TrackRun.advance_fall {t : TrackRun} {r : TrackRecord} (hlevel : t.level = true)
    (h : r.high ≤ t.phase + r.increment) :
    t.advance r = { t with phase := t.phase + r.increment - r.high, level := false, lastEdge := .fall } := by
  simp [advance, hlevel, h]

theorem TrackRun.advance_rise {t : TrackRun} {r : TrackRecord} (hlevel : t.level = false)
    (h : r.low ≤ t.phase + r.increment) :
    t.advance r =
      { t with
        phase := t.phase + r.increment - r.low, level := true, lastEdge := .rise, edges := (t.edges + 1) % 2 ^ 32 } := by
  simp [advance, hlevel, h]

theorem TrackRun.advance_stay {t : TrackRun} {r : TrackRecord} (h : t.phase + r.increment < r.span t.level) :
    t.advance r = { t with phase := t.phase + r.increment, lastEdge := .noChange } := by
  simp [advance, Nat.not_le.mpr h]

/-- The three cases of an advance: a fall, a rise, or neither. -/
theorem TrackRun.advance_cases (t : TrackRun) (r : TrackRecord) :
    (t.level = true ∧ r.high ≤ t.phase + r.increment ∧
      t.advance r = { t with phase := t.phase + r.increment - r.high, level := false, lastEdge := .fall }) ∨
    (t.level = false ∧ r.low ≤ t.phase + r.increment ∧
      t.advance r = { t with
        phase := t.phase + r.increment - r.low, level := true, lastEdge := .rise, edges := (t.edges + 1) % 2 ^ 32 }) ∨
    (t.phase + r.increment < r.span t.level ∧
      t.advance r = { t with phase := t.phase + r.increment, lastEdge := .noChange }) := by
  rcases Nat.lt_or_ge (t.phase + r.increment) (r.span t.level) with h | h
  · exact .inr (.inr ⟨h, advance_stay h⟩)
  · cases hlevel : t.level <;> rw [hlevel] at h
    · exact .inr (.inl ⟨rfl, h, advance_rise hlevel h⟩)
    · exact .inl ⟨rfl, h, advance_fall hlevel h⟩

/-- An advance leaves φ below the span of the level it leads to (R26, R29). -/
theorem TrackRun.advance_phase_lt {t : TrackRun} {r : TrackRecord} (hr : r.increment ≤ min r.high r.low)
    (ht : t.phase < r.span t.level) : (t.advance r).phase < r.span (t.advance r).level := by
  rcases t.advance_cases r with ⟨hlevel, hcross, h⟩ | ⟨hlevel, hcross, h⟩ | ⟨hstay, h⟩
  · simp only [hlevel, TrackRecord.span_true] at ht
    simp only [h, TrackRecord.span_false]
    omega
  · simp only [hlevel, TrackRecord.span_false] at ht
    simp only [h, TrackRecord.span_true]
    omega
  · rw [h]; exact hstay

/-- Settles O19: the lemmas of the gate, of the flag and of the three cases of an advance. -/
theorem trackAdvances : Obligations.TrackAdvances := by
  refine ⟨TrackRecord.advances_iff,
    fun r level => ⟨r.gateAllows_open level, fun h => TrackRecord.gateAllows_hard h level,
      fun h => TrackRecord.gateAllows_clean h level⟩,
    fun r flags cells => ⟨fun h => TrackRecord.gateOpen_none h flags cells, fun g h => ?_, fun c h => ?_⟩,
    fun r old isOpen before after => ⟨fun h => r.closePendingAfter_cleared old before h, ?_, ?_⟩,
    fun t r hr ht => ⟨fun hlevel hcross => ?_, fun hlevel hcross => ?_, TrackRun.advance_stay⟩⟩
  · exact TrackRecord.gateOpen_of_read (by rw [h]; rfl)
  · exact TrackRecord.gateOpen_of_read (by rw [h]; rfl)
  · rintro rfl hclean rfl rfl
    exact TrackRecord.closePendingAfter_set hclean old
  · rintro rfl rfl h
    exact TrackRecord.closePendingAfter_kept h old
  · refine ⟨TrackRun.advance_fall hlevel hcross, ?_⟩
    simpa only [TrackRun.advance_fall hlevel hcross, TrackRecord.span_false] using TrackRun.advance_phase_lt hr ht
  · refine ⟨TrackRun.advance_rise hlevel hcross, ?_⟩
    simpa only [TrackRun.advance_rise hlevel hcross, TrackRecord.span_true] using TrackRun.advance_phase_lt hr ht

/-! ### Restart and activation (R43, R44) -/

theorem TrackRecord.restarted_phase_lt {r : TrackRecord} (hhigh : 1 ≤ r.high) (hlow : 1 ≤ r.low) :
    r.restarted.phase < r.span r.restarted.level := by
  have hspan := TrackRecord.span_pos hhigh hlow r.initialLevel
  simp only [restarted]
  omega

theorem TrackRecord.activated_of_restart {r : TrackRecord} (h : r.restartOnActivation = true) (t : TrackRun) :
    r.activated t = r.restarted := if_pos h

/-- A track kept at an activation: only φ and the close-pending flag can change. -/
theorem TrackRecord.activated_of_keep {r : TrackRecord} {t : TrackRun} (h : r.restartOnActivation = false)
    (hspan : 1 ≤ r.span t.level) :
    r.activated t =
      { t with
        phase := min t.phase (r.span t.level - 1)
        closePending := t.closePending && r.gateSource != .none && r.gateStyle == .clean } := by
  have hphase : (if r.span t.level ≤ t.phase then r.span t.level - 1 else t.phase) = min t.phase (r.span t.level - 1) := by
    split <;> omega
  simp only [activated, h, hphase]
  rfl

/-- Settles O22: `TrackRecord.restarted` is the record's restart field by field, and `activated_of_keep` is the kept track. -/
theorem restartAndActivationOfTracks : Obligations.RestartAndActivationOfTracks := by
  intro r t hhigh hlow
  refine ⟨rfl, rfl, TrackRecord.restarted_phase_lt hhigh hlow, rfl, rfl, rfl, fun h => TrackRecord.activated_of_restart h t,
    fun h => ?_⟩
  rw [TrackRecord.activated_of_keep h (TrackRecord.span_pos hhigh hlow t.level)]
  exact ⟨rfl, rfl, rfl, rfl, by simp [and_assoc]⟩

end Sys2Proof.Machine
end

section
/-! SUPPORT. The walk of the tracks in ascending index (R27, R30). -/

namespace Sys2Proof.Machine

section walk

variable {records : Vector TrackRecord 24} {flags : Vector Bool 8} {cells : Vector CellRun 16}

theorem walkTrack_self (tracks : Vector TrackRun 24) (i : Fin 24) :
    (walkTrack records flags cells tracks i)[i] =
      (tracks[i]).stepped records[i] ((records[i]).gateOpen flags cells) (parentRose tracks i (records[i]).parent) := by
  simp [walkTrack]

theorem walkTrack_of_ne (tracks : Vector TrackRun 24) {i j : Fin 24} (h : i ≠ j) :
    (walkTrack records flags cells tracks i)[j] = tracks[j] := by
  have hval : i.val ≠ j.val := fun hv => h (Fin.ext hv)
  simp [walkTrack, hval]

/-- A walk over some tracks leaves the others as they are. -/
theorem foldl_walkTrack_of_notMem {l : List (Fin 24)} {j : Fin 24} (h : j ∉ l) (tracks : Vector TrackRun 24) :
    (l.foldl (walkTrack records flags cells) tracks)[j] = tracks[j] := by
  induction l generalizing tracks with
  | nil => rfl
  | cons i rest ih =>
    rw [List.mem_cons, not_or] at h
    obtain ⟨hne, hrest⟩ := h
    rw [List.foldl_cons, ih hrest, walkTrack_of_ne tracks (Ne.symm hne)]

/-- In a walk in ascending order each track of the walk is computed from its own state before it and from its parent's after it:
a parent of lower index is not computed again, and one of no lower index counts as not risen (log entry 18). -/
theorem foldl_walkTrack_of_mem {l : List (Fin 24)} (hl : l.Pairwise (· < ·)) {i : Fin 24} (hi : i ∈ l)
    (tracks : Vector TrackRun 24) :
    let after := l.foldl (walkTrack records flags cells) tracks
    after[i] =
      (tracks[i]).stepped records[i] ((records[i]).gateOpen flags cells) (parentRose after i (records[i]).parent) := by
  induction l generalizing tracks with
  | nil => simp at hi
  | cons j rest ih =>
    obtain ⟨hbelow, hrest⟩ := List.pairwise_cons.mp hl
    rcases List.mem_cons.mp hi with rfl | hmem
    · have hself : i ∉ rest := fun h => absurd (hbelow i h) (lt_irrefl i)
      have hrose : parentRose (rest.foldl (walkTrack records flags cells) (walkTrack records flags cells tracks i)) i
          (records[i]).parent = parentRose tracks i (records[i]).parent := by
        unfold parentRose
        by_cases hlt : (records[i]).parent < i
        · have hparent : (records[i]).parent ∉ rest := fun h => absurd (hbelow _ h) (not_lt.mpr hlt.le)
          rw [foldl_walkTrack_of_notMem hparent, walkTrack_of_ne tracks hlt.ne']
        · simp only [decide_eq_false hlt, Bool.false_and]
      simp only [List.foldl_cons, hrose]
      rw [foldl_walkTrack_of_notMem hself, walkTrack_self]
    · have hne : j ≠ i := (hbelow i hmem).ne
      have hwalked := ih hrest hmem (walkTrack records flags cells tracks j)
      rwa [walkTrack_of_ne tracks hne] at hwalked

/-- What the walk makes of track `i` (R27): its own step, with the edge its parent has after the walk. -/
theorem walkTracks_getElem (tracks : Vector TrackRun 24) (i : Fin 24) :
    (walkTracks records flags cells tracks)[i] =
      (tracks[i]).stepped records[i] ((records[i]).gateOpen flags cells)
        (parentRose (walkTracks records flags cells tracks) i (records[i]).parent) :=
  foldl_walkTrack_of_mem (List.pairwise_lt_finRange 24) (List.mem_finRange i) tracks

end walk

/-- Settles O20: `walkTracks_getElem`, with the step of a track written out. -/
theorem walkInAscendingIndex : Obligations.WalkInAscendingIndex := by
  intro records flags cells tracks i
  have hrose : parentRose (walkTracks records flags cells tracks) i (records[i]).parent =
      decide ((records[i]).parent < i ∧ ((walkTracks records flags cells tracks)[(records[i]).parent]).lastEdge = .rise) := by
    rw [Bool.eq_iff_iff]; simp [parentRose]
  have hwalked := walkTracks_getElem (records := records) (flags := flags) (cells := cells) tracks i
  rw [hrose] at hwalked
  exact hwalked

end Sys2Proof.Machine
end

section
/-! SUPPORT. A track over many advances (R35): its place in the cycle of H + Lw, and the edges made so far. -/

namespace Sys2Proof.Machine

/-- Where a track stands in a cycle of its high phase followed by its low phase. -/
def TrackRun.cyclePlace (t : TrackRun) (r : TrackRecord) : Nat := if t.level then t.phase else r.high + t.phase

/-- The track after `k` advances. -/
def TrackRun.advanced (t : TrackRun) (r : TrackRecord) (k : Nat) : TrackRun := (fun x : TrackRun => x.advance r)^[k] t

/-- The number of edges of a kind in the first `k` advances. -/
def TrackRun.edgesOver (t : TrackRun) (r : TrackRecord) (edge : Change) (k : Nat) : Nat :=
  ((List.range k).filter fun j => (t.advanced r (j + 1)).lastEdge == edge).length

@[simp] theorem TrackRun.advanced_zero (t : TrackRun) (r : TrackRecord) : t.advanced r 0 = t := rfl

theorem TrackRun.advanced_succ (t : TrackRun) (r : TrackRecord) (k : Nat) :
    t.advanced r (k + 1) = (t.advanced r k).advance r := Function.iterate_succ_apply' _ _ _

@[simp] theorem TrackRun.edgesOver_zero (t : TrackRun) (r : TrackRecord) (edge : Change) : t.edgesOver r edge 0 = 0 := rfl

theorem TrackRun.edgesOver_succ (t : TrackRun) (r : TrackRecord) (edge : Change) (k : Nat) :
    t.edgesOver r edge (k + 1) = t.edgesOver r edge k + ((t.advanced r (k + 1)).lastEdge == edge).toNat := by
  simp only [edgesOver, List.range_succ, List.filter_append, List.length_append, Nat.add_left_cancel_iff]
  cases h : (t.advanced r (k + 1)).lastEdge == edge <;> simp [h]

/-- A place in the cycle is below H + Lw. -/
theorem TrackRun.cyclePlace_lt {t : TrackRun} {r : TrackRecord} (h : t.phase < r.span t.level) :
    t.cyclePlace r < r.high + r.low := by
  unfold cyclePlace
  cases hlevel : t.level <;> rw [hlevel] at h
  · exact Nat.add_lt_add_left h r.high
  · exact h.trans_le (Nat.le_add_right r.high r.low)

/-- The place in the cycle determines level and phase. -/
theorem TrackRun.eq_of_cyclePlace_eq {t u : TrackRun} {r : TrackRecord} (ht : t.phase < r.span t.level)
    (hu : u.phase < r.span u.level) (h : t.cyclePlace r = u.cyclePlace r) : t.phase = u.phase ∧ t.level = u.level := by
  unfold cyclePlace at h
  cases hlevel : t.level <;> cases hulevel : u.level <;>
    simp only [hlevel, hulevel, if_true, Bool.false_eq_true, if_false, TrackRecord.span_true, TrackRecord.span_false] at ht hu h
  · exact ⟨Nat.add_left_cancel h, rfl⟩
  · omega
  · omega
  · exact ⟨h, rfl⟩

/-- One advance moves on by the increment, a rising edge closing the cycle; a falling edge is where the level goes from 1 to 0. -/
theorem TrackRun.advance_moves (t : TrackRun) (r : TrackRecord) :
    let u := t.advance r
    let rises := (u.lastEdge == .rise).toNat
    u.cyclePlace r + (r.high + r.low) * rises = t.cyclePlace r + r.increment ∧
      u.level.toNat + (u.lastEdge == .fall).toNat = t.level.toNat + rises ∧ u.edges % 2 ^ 32 = (t.edges + rises) % 2 ^ 32 := by
  rcases t.advance_cases r with ⟨hlevel, hcross, h⟩ | ⟨hlevel, hcross, h⟩ | ⟨hstay, h⟩ <;>
    simp only [h, cyclePlace, beq_eq_decide]
  · simp [hlevel]; omega
  · simp [hlevel]; omega
  · cases hlevel : t.level <;> simp
    omega

/-- After any number of advances (R35): φ is below its span, the way covered is the whole cycles of the rising edges and the place
reached, and rising and falling edges take turns. -/
theorem TrackRun.advanced_moves {t : TrackRun} {r : TrackRecord} (hr : r.increment ≤ min r.high r.low)
    (ht : t.phase < r.span t.level) (k : Nat) :
    let u := t.advanced r k
    u.phase < r.span u.level ∧
      u.cyclePlace r + (r.high + r.low) * t.edgesOver r .rise k = t.cyclePlace r + r.increment * k ∧
      u.level.toNat + t.edgesOver r .fall k = t.level.toNat + t.edgesOver r .rise k ∧
      u.edges % 2 ^ 32 = (t.edges + t.edgesOver r .rise k) % 2 ^ 32 := by
  induction k with
  | zero => simpa using ht
  | succ k ih =>
    obtain ⟨hphase, hplace, hlevel, hedges⟩ := ih
    obtain ⟨hplace', hlevel', hedges'⟩ := advance_moves (t.advanced r k) r
    simp only [edgesOver_succ, advanced_succ, Nat.mul_add, mul_one]
    exact ⟨advance_phase_lt hr hphase, by omega, by omega, by omega⟩

/-- Settles O21: after H + Lw advances the way covered is the increment times a whole cycle, so `advanced_moves` leaves as many rising
edges as the increment and the place of the start. -/
theorem edgesOverOneTurn : Obligations.EdgesOverOneTurn := by
  intro t r hpositive hr ht
  obtain ⟨hphase, hplace, hlevel, hedges⟩ := TrackRun.advanced_moves hr ht (r.high + r.low)
  have hstart := TrackRun.cyclePlace_lt ht
  have hend := TrackRun.cyclePlace_lt hphase
  have hrises : t.edgesOver r .rise (r.high + r.low) = r.increment := by
    have hquotient := congrArg (· / (r.high + r.low)) hplace
    simpa only [Nat.mul_comm r.increment, Nat.add_mul_div_left _ _ (Nat.zero_lt_of_lt hstart), Nat.div_eq_of_lt hstart,
      Nat.div_eq_of_lt hend, Nat.zero_add] using hquotient
  have hsame : (t.advanced r (r.high + r.low)).cyclePlace r = t.cyclePlace r := by
    rw [hrises, Nat.mul_comm] at hplace
    omega
  obtain ⟨hphase_eq, hlevel_eq⟩ := TrackRun.eq_of_cyclePlace_eq hphase ht hsame
  have hfalls : t.edgesOver r .fall (r.high + r.low) = r.increment := by
    rw [hlevel_eq] at hlevel
    omega
  rw [hrises] at hedges
  exact ⟨hphase_eq, hlevel_eq, hedges, hrises, hfalls⟩

end Sys2Proof.Machine
end

section
/-! SUPPORT. An activation applied (R44, R54, R74, R157, R158): the clamps of the staged bank, and each block after it. -/

namespace Sys2Proof.Machine

/-! ### Clamps (R158) -/

/-- A sum of levels is the number of those that are 1. -/
theorem sum_map_toNat_eq_length_filter {α : Type} (l : List α) (p : α → Bool) :
    (l.map fun x => (p x).toNat).sum = (l.filter p).length := by
  induction l with
  | nil => rfl
  | cons x rest ih => cases h : p x <;> simp [h, ih, Nat.add_comm]

theorem TrackRecord.parentClamps_eq (r : TrackRecord) (i : Fin 24) :
    r.parentClamps i = decide (r.mode = .follow ∧ i ≤ r.parent) := by
  rw [parentClamps, beq_eq_decide, Bool.decide_and]

theorem TrackRecord.keptPhaseClamps_eq (r : TrackRecord) (t : TrackRun) :
    r.keptPhaseClamps t = decide (r.restartOnActivation = false ∧ r.span t.level ≤ t.phase) := by
  cases h : r.restartOnActivation <;> simp [keptPhaseClamps, h]

/-- A track record as it enters the live bank, field by field. -/
theorem TrackRecord.clamped_eq (r : TrackRecord) (i : Fin 24) :
    r.clamped i =
      { r with
        mode := if r.mode = .follow ∧ i ≤ r.parent then .free else r.mode
        increment := min r.increment (min r.high r.low) } := by
  have hincrement : (if r.incrementClamps then min r.high r.low else r.increment) = min r.increment (min r.high r.low) := by
    simp only [incrementClamps, decide_eq_true_eq]
    split <;> omega
  simp only [clamped, hincrement, parentClamps_eq, decide_eq_true_eq]

theorem Header.clamped_eq (h : Header) : h.clamped = { h with lead := max h.lead h.spacing } := by
  have hlead : (if h.lead < h.spacing then h.spacing else h.lead) = max h.lead h.spacing := by split <;> omega
  simp only [clamped, hlead]

theorem Plan.clamped_track (p : Plan) (i : Fin 24) : p.clamped.tracks[i] = (p.tracks[i]).clamped i := by
  simp [clamped]

/-- The parent, increment and lead clamps, each kind counted by itself. -/
theorem Plan.recordClamps_eq (p : Plan) :
    p.recordClamps =
      ((List.finRange 24).filter fun i => decide ((p.tracks[i]).mode = .follow ∧ i ≤ (p.tracks[i]).parent)).length +
        ((List.finRange 24).filter fun i =>
          decide (min (p.tracks[i]).high (p.tracks[i]).low < (p.tracks[i]).increment)).length +
        (if p.header.lead < p.header.spacing then 1 else 0) := by
  simp only [recordClamps, List.sum_map_add, sum_map_toNat_eq_length_filter, TrackRecord.parentClamps_eq,
    TrackRecord.incrementClamps]
  congr 1
  by_cases h : p.header.lead < p.header.spacing <;> simp [h]

theorem keptPhaseClamps_eq (records : Vector TrackRecord 24) (tracks : Vector TrackRun 24) :
    keptPhaseClamps records tracks =
      ((List.finRange 24).filter fun i => decide ((records[i]).restartOnActivation = false ∧
        (records[i]).span (tracks[i]).level ≤ (tracks[i]).phase)).length := by
  simp only [keptPhaseClamps, sum_map_toNat_eq_length_filter, TrackRecord.keptPhaseClamps_eq]

/-! ### The blocks after an activation (R157) -/

theorem activateLanes_same {old new : Vector LaneRecord 32} {i : Fin 32} (h : old[i] = new[i]) (lanes : Vector LaneRun 32)
    (tracks : Vector TrackRun 24) (step : Nat) : (activateLanes old new lanes tracks step)[i] = lanes[i] := by
  have h' : old[i.val] = new[i.val] := h
  simp [activateLanes, h']

theorem activateLanes_changed {old new : Vector LaneRecord 32} {i : Fin 32} (h : old[i] ≠ new[i])
    (lanes : Vector LaneRun 32) (tracks : Vector TrackRun 24) (step : Nat) :
    (activateLanes old new lanes tracks step)[i] = (new[i]).filled tracks step := by
  have h' : old[i.val] ≠ new[i.val] := h
  simp [activateLanes, h']

/-- A filled lane shows one value in its whole history (R53). -/
theorem LaneRecord.filled_spec (r : LaneRecord) (tracks : Vector TrackRun 24) (step : Nat) :
    (∀ k : Fin 16, (r.filled tracks step).history[k] = r.source.value tracks step) ∧
      (r.filled tracks step).output = (r.source.value tracks step ^^ r.invert) := by
  simp [filled, outputOf]

/-- The restart inputs read each cell's output as the restart leaves it (R72). -/
theorem restartInputs_eq (configs : Vector CellConfig 16) (cells : Vector CellRun 16) (restarts : Fin 16 → Bool)
    (tracks : Vector TrackRun 24) (flags : Vector Bool 8) :
    restartInputs configs cells restarts tracks flags =
      selected (fun _ => false) (fun t => (tracks[t]).level)
        (fun c => ((restartCells configs cells restarts tracks flags)[c]).output) (fun g => flags[g]) := by
  unfold restartInputs
  congr 1
  funext c
  cases h : restarts c <;> simp [restartCells, h, CellConfig.restarted]

theorem activateCells_same {old new : Vector CellConfig 16} {i : Fin 16} (h : old[i] = new[i]) (cells : Vector CellRun 16)
    (tracks : Vector TrackRun 24) (flags : Vector Bool 8) : (activateCells old new cells tracks flags)[i] = cells[i] := by
  have h' : old[i.val] = new[i.val] := h
  simp [activateCells, restartCells, h']

theorem activateCells_changed {old new : Vector CellConfig 16} {i : Fin 16} (h : old[i] ≠ new[i])
    (cells : Vector CellRun 16) (tracks : Vector TrackRun 24) (flags : Vector Bool 8) :
    let after := activateCells old new cells tracks flags
    after[i] =
      { value := (new[i]).truthValue
          (selected (fun _ => false) (fun t => (tracks[t]).level) (fun c => (after[c]).output) (fun g => flags[g]))
        timer := 0, output := (new[i]).initialOutput, lastChange := .noChange } := by
  have h' : old[i.val] ≠ new[i.val] := h
  dsimp only [activateCells]
  rw [← restartInputs_eq]
  simp [restartCells, h', CellConfig.restarted]

namespace State

variable (s : State) (a : Activation)

theorem activate_live : (s.activate a).plan.live = s.plan.staged.clamped := by
  rw [activate_plan]; rfl

theorem activate_tracks :
    (s.activate a).tracks =
      tabulate fun i => ((s.activate a).plan.live.tracks[i]).activated s.tracks[i] := by
  rw [activate_live]; simp only [activate, raiseClamps_frame, setCells_tracks, setLanes_tracks, setTracks_tracks]

/-- Each track is restarted or kept under its new record (R44). -/
theorem activate_track (i : Fin 24) :
    (s.activate a).tracks[i] = ((s.activate a).plan.live.tracks[i]).activated s.tracks[i] := by
  rw [activate_tracks]; exact getElem_tabulate _ _ _

theorem activate_lanes :
    (s.activate a).lanes =
      activateLanes s.plan.live.lanes (s.activate a).plan.live.lanes s.lanes (s.activate a).tracks s.seq.step := by
  rw [activate_live]; simp [activate]

theorem activate_cells :
    (s.activate a).cells =
      activateCells s.plan.live.cells (s.activate a).plan.live.cells s.cells (s.activate a).tracks s.events.gates := by
  rw [activate_live]; simp [activate]

theorem raiseClamps_requests (clamps causeStep : Nat) :
    (s.raiseClamps clamps causeStep).requests =
      if clamps = 0 then s.requests else s.requests.raise 34 s.requests.clampKind causeStep := by
  unfold raiseClamps; split <;> rfl

/-- PLAN_CLAMP is raised with the activation step if clamps were made (R157, step 6). -/
theorem activate_requests :
    (s.activate a).requests =
      let clamps := s.plan.staged.recordClamps + keptPhaseClamps s.plan.staged.clamped.tracks s.tracks
      if clamps = 0 then s.requests else s.requests.raise 34 s.requests.clampKind a.step := by
  simp only [activate, raiseClamps_requests]
  rfl

end State

/-- Settles O26: the clamps counted by kind, then block by block. -/
theorem activationApplies : Obligations.ActivationApplies := by
  intro s a
  have hlive := s.activate_live a
  refine ⟨Plan.recordClamps_eq _, hlive, by rw [hlive]; rfl, by rw [hlive]; rfl, ?_, fun i => ?_, ?_, s.activate_track a,
    fun i => ?_, fun i => ?_, ?_, s.activate_frame a⟩
  · rw [hlive]; exact Header.clamped_eq _
  · rw [hlive, Plan.clamped_track, TrackRecord.clamped_eq]
  · rw [← keptPhaseClamps_eq, hlive, State.activate_plan]; rfl
  · rw [State.activate_lanes]
    refine ⟨fun h => activateLanes_same h _ _ _, fun h => ?_⟩
    rw [activateLanes_changed h]
    exact LaneRecord.filled_spec _ _ _
  · refine ⟨fun h => ?_, fun h => ?_⟩ <;> rw [State.activate_cells]
    · exact activateCells_same h _ _ _
    · exact activateCells_changed h _ _ _
  · rw [← keptPhaseClamps_eq, hlive]
    exact s.activate_requests a

end Sys2Proof.Machine
end

section
/-! SUPPORT. The law of the tracks (R24, R26, R40) at the operations that touch tracks, live records or staged records: the walk, restarts,
activations and writes to the staged bank. -/

namespace Sys2Proof.Machine

/-! ### One track -/

theorem TrackRecord.Lawful.ranged {r : TrackRecord} {i : Fin 24} (h : r.Lawful i) : r.Ranged := h.1

theorem TrackRecord.Lawful.increment_le {r : TrackRecord} {i : Fin 24} (h : r.Lawful i) : r.increment ≤ min r.high r.low := h.2.1

/-- The clamps make a staged record lawful (R158). -/
theorem TrackRecord.Ranged.clamped_lawful {r : TrackRecord} (h : r.Ranged) (i : Fin 24) : (r.clamped i).Lawful i := by
  obtain ⟨hincrement, hincrement', hhigh, hhigh', hlow, hlow'⟩ := h
  rw [TrackRecord.clamped_eq]
  refine ⟨⟨?_, ?_, hhigh, hhigh', hlow, hlow'⟩, Nat.min_le_right _ _, fun hmode => ?_⟩
  · dsimp only; omega
  · dsimp only; omega
  · by_contra hparent
    by_cases hclamps : r.mode = .follow ∧ i ≤ r.parent
    · simp [hclamps] at hmode
    · rw [if_neg hclamps] at hmode
      exact hclamps ⟨hmode, not_lt.mp hparent⟩

/-- A restarted track fits its record (R43). -/
theorem TrackRecord.Ranged.restarted_fits {r : TrackRecord} (h : r.Ranged) : r.restarted.Fits r := by
  obtain ⟨-, -, hhigh, -, hlow, -⟩ := h
  exact ⟨TrackRecord.restarted_phase_lt hhigh hlow, Nat.two_pow_pos 32, fun hpending => nomatch hpending⟩

/-- A track that fits its old record fits the new one after an activation (R44). -/
theorem TrackRun.Fits.activated {t : TrackRun} {old new : TrackRecord} (h : t.Fits old) (hnew : new.Ranged) :
    (new.activated t).Fits new := by
  obtain ⟨-, hedges, hpending⟩ := h
  cases hrestart : new.restartOnActivation
  · obtain ⟨-, -, hhigh, -, hlow, -⟩ := hnew
    have hspan := TrackRecord.span_pos hhigh hlow t.level
    rw [TrackRecord.activated_of_keep hrestart hspan]
    refine ⟨by dsimp only; omega, hedges, fun hkept => ?_⟩
    simp only [Bool.and_eq_true, beq_iff_eq] at hkept
    obtain ⟨⟨hold, -⟩, hclean⟩ := hkept
    exact ⟨(hpending hold).1, hclean⟩
  · rw [TrackRecord.activated_of_restart hrestart]
    exact hnew.restarted_fits

theorem TrackRun.advance_edges_lt {t : TrackRun} (r : TrackRecord) (h : t.edges < 2 ^ 32) : (t.advance r).edges < 2 ^ 32 := by
  rcases t.advance_cases r with ⟨-, -, heq⟩ | ⟨-, -, heq⟩ | ⟨-, heq⟩ <;> rw [heq]
  · exact h
  · exact Nat.mod_lt _ (Nat.two_pow_pos 32)
  · exact h

/-- One step keeps a track in its record's law (R29, R30, R40). -/
theorem TrackRun.Fits.stepped {t : TrackRun} {r : TrackRecord} (h : t.Fits r) (hr : r.increment ≤ min r.high r.low)
    (isOpen parentRose : Bool) : (t.stepped r isOpen parentRose).Fits r := by
  obtain ⟨hphase, hedges, hpending⟩ := h
  have hflag {after : Bool} (hset : r.closePendingAfter t.closePending isOpen t.level after = true) :
      after = true ∧ r.gateStyle = .clean := by
    obtain ⟨hafter, hold | hclean⟩ := TrackRecord.closePendingAfter_true hset
    · exact ⟨hafter, (hpending hold).2⟩
    · exact ⟨hafter, hclean⟩
  unfold TrackRun.stepped
  cases r.advances isOpen parentRose t.level
  · exact ⟨hphase, hedges, hflag⟩
  · exact ⟨advance_phase_lt hr hphase, advance_edges_lt r hedges, hflag⟩

/-- A write in range keeps a staged record in its ranges (R24). -/
theorem TrackRecord.Ranged.write {r r' : TrackRecord} (h : r.Ranged) {field v : Nat} (hw : r.write field v = some r') :
    r'.Ranged := by
  have hwithin {low high x : Nat} (hx : within low high v = some x) : low ≤ x ∧ x ≤ high := by
    unfold within at hx
    split at hx <;> cases hx
    assumption
  obtain ⟨hincrement, hincrement', hhigh, hhigh', hlow, hlow'⟩ := h
  unfold TrackRecord.write at hw
  split at hw
  case h_12 => cases hw
  all_goals
    obtain ⟨x, hx, rfl⟩ := Option.map_eq_some_iff.mp hw
  case h_3 => exact ⟨(hwithin hx).1, (hwithin hx).2, hhigh, hhigh', hlow, hlow'⟩
  case h_4 => exact ⟨hincrement, hincrement', (hwithin hx).1, (hwithin hx).2, hlow, hlow'⟩
  case h_5 => exact ⟨hincrement, hincrement', hhigh, hhigh', (hwithin hx).1, (hwithin hx).2⟩
  all_goals exact ⟨hincrement, hincrement', hhigh, hhigh', hlow, hlow'⟩

/-! ### Both banks -/

/-- The part of the law of the tracks that speaks of the two banks: staged records in their ranges, live records lawful. -/
structure PlanStore.TrackLaw (p : PlanStore) : Prop where
  staged (i : Fin 24) : (p.staged.tracks[i]).Ranged
  live (i : Fin 24) : (p.live.tracks[i]).Lawful i

theorem PlanStore.TrackLaw.applied {p : PlanStore} (h : p.TrackLaw) (stage clamps : Nat) : (p.applied stage clamps).TrackLaw := by
  refine ⟨h.staged, fun i => ?_⟩
  have hlive : (p.applied stage clamps).live.tracks[i] = (p.staged.tracks[i]).clamped i := p.staged.clamped_track i
  rw [hlive]
  exact (h.staged i).clamped_lawful i

theorem PlanStore.TrackLaw.atOrigin {p : PlanStore} (h : p.TrackLaw) : p.atOrigin.TrackLaw := by
  unfold PlanStore.atOrigin
  split
  · exact h
  · exact h.applied _ _

namespace State

variable {s t : State}

theorem TrackLaw.plan (h : s.TrackLaw) : s.plan.TrackLaw := ⟨h.1, h.2.1⟩

theorem TrackLaw.fits (h : s.TrackLaw) (i : Fin 24) : (s.tracks[i]).Fits s.plan.live.tracks[i] := h.2.2 i

/-- The law of the tracks is the law of the banks with running tracks that fit. -/
theorem trackLaw_of_plan (hplan : s.plan.TrackLaw) (hfits : ∀ i : Fin 24, (s.tracks[i]).Fits s.plan.live.tracks[i]) : s.TrackLaw :=
  ⟨hplan.staged, hplan.live, hfits⟩

/-- Nothing else of the part is in the law: an operation that leaves the tracks and both banks' records keeps it. -/
theorem TrackLaw.of_frame (h : s.TrackLaw) (htracks : t.tracks = s.tracks)
    (hlive : t.plan.live.tracks = s.plan.live.tracks) (hstaged : t.plan.staged.tracks = s.plan.staged.tracks) : t.TrackLaw := by
  obtain ⟨hranged, hlawful, hfits⟩ := h
  refine ⟨?_, ?_, ?_⟩
  · rwa [hstaged]
  · rwa [hlive]
  · rwa [htracks, hlive]

/-- An operation that leaves the tracks and the plan store. -/
theorem TrackLaw.of_plan_eq (h : s.TrackLaw) (htracks : t.tracks = s.tracks) (hplan : t.plan = s.plan) : t.TrackLaw :=
  h.of_frame htracks (by rw [hplan]) (by rw [hplan])

/-- Tracks that have all been restarted fit any lawful live bank (R43). -/
theorem trackLaw_of_restartTracks (hplan : s.plan.TrackLaw) (htracks : s.tracks = restartTracks s.plan.live.tracks) :
    s.TrackLaw := by
  refine trackLaw_of_plan hplan fun i => ?_
  have hrestarted : s.tracks[i] = (s.plan.live.tracks[i]).restarted := by
    rw [htracks]; exact getElem_tabulate _ _ _
  rw [hrestarted]
  exact (hplan.live i).ranged.restarted_fits

/-! ### Activations and origins (R19, R22, R157, R160) -/

theorem TrackLaw.activate (h : s.TrackLaw) (a : Activation) : (s.activate a).TrackLaw := by
  have hplan : (s.activate a).plan.TrackLaw := by rw [activate_plan]; exact h.plan.applied _ _
  refine trackLaw_of_plan hplan fun i => ?_
  rw [activate_track]
  exact (h.fits i).activated (hplan.live i).ranged

theorem TrackLaw.performOrigin (h : s.TrackLaw) (number : Nat) : (s.performOrigin number).TrackLaw := by
  refine trackLaw_of_restartTracks ?_ ?_
  · rw [performOrigin_plan]; exact h.plan.atOrigin
  · rw [performOrigin_plan, performOrigin_tracks]

theorem TrackLaw.resetBlocks (h : s.TrackLaw) : s.resetBlocks.TrackLaw :=
  trackLaw_of_restartTracks h.plan rfl

theorem TrackLaw.activateAtOrigin (h : s.TrackLaw) (a : Activation) : (s.activateAtOrigin a).TrackLaw := by
  have hplan : (s.activateAtOrigin a).plan = s.plan.applied a.stage s.plan.staged.recordClamps := by
    simp [State.activateAtOrigin]
  refine trackLaw_of_restartTracks ?_ ?_ <;> rw [hplan]
  · exact h.plan.applied _ _
  · simp [State.activateAtOrigin, restartBlocks]

theorem TrackLaw.activateLate (h : s.TrackLaw) (a : Activation) : (s.activateLate a).TrackLaw :=
  (h.activate a).of_frame (by simp [State.activateLate]) (by simp [State.activateLate]) (by simp [State.activateLate])

theorem TrackLaw.ite {p : Prop} [Decidable p] (hs : p → s.TrackLaw) (ht : ¬ p → t.TrackLaw) : (if p then s else t).TrackLaw := by
  split
  · exact hs ‹_›
  · exact ht ‹_›

theorem TrackLaw.weighActivation (h : s.TrackLaw) (a : Activation) (origin : Bool) : (s.weighActivation a origin).TrackLaw :=
  .ite (fun _ => h.activateAtOrigin a) fun _ => .ite (fun _ => h.activateLate a) fun _ => h

theorem TrackLaw.readActivation (h : s.TrackLaw) (f : BeatFields) (origin : Bool) : (s.readActivation f origin).TrackLaw := by
  have hlocked (a : Activation) : (s.setPlan { s.plan with pendingActivation := some a }).TrackLaw := h
  unfold State.readActivation
  exact .ite (fun _ => (hlocked _).weighActivation _ origin) fun _ => h

theorem TrackLaw.expireOverdue (h : s.TrackLaw) : s.expireOverdue.TrackLaw := h.of_plan_eq (by simp) (by simp)

theorem TrackLaw.announceOrigin (h : s.TrackLaw) : s.announceOrigin.TrackLaw := by
  have told : s.announced.TrackLaw := (h.performOrigin (nextOrigin s.root.announcedOrigin)).of_frame
    (by simp [announced]) (by simp [announced, PlanStore.announceAtOrigin]) (by simp [announced, PlanStore.announceAtOrigin])
  exact .ite (fun _ => told.expireOverdue) fun _ => told

theorem TrackLaw.resetPart (h : s.TrackLaw) : s.resetPart.TrackLaw := by
  have hcleared : (s.setRoot s.root.cleared).TrackLaw := h
  unfold State.resetPart
  split
  · exact h.resetBlocks
  · exact .ite (fun _ => hcleared.announceOrigin) fun _ => hcleared.resetBlocks

/-! ### Steps and strobes (R5, R27) -/

theorem TrackLaw.computeStep (h : s.TrackLaw) (watch : BitVec 16) (step : Nat) : (s.computeStep watch step).TrackLaw := by
  have hplan : (s.computeStep watch step).plan = s.plan := by simp
  have hwalked : (s.computeStep watch step).tracks = walkTracks s.plan.live.tracks s.events.gates s.cells s.tracks := by
    simp [State.computeStep]
  refine trackLaw_of_plan (by rw [hplan]; exact h.plan) fun i => ?_
  rw [hplan, hwalked, walkTracks_getElem]
  exact (h.fits i).stepped (h.plan.live i).increment_le _ _

theorem TrackLaw.applyDue (h : s.TrackLaw) (step : Nat) : (s.applyDue step).TrackLaw := by
  unfold State.applyDue
  split
  · exact h
  · exact .ite (fun _ => h.activate _) fun _ => h

theorem TrackLaw.takeStep (h : s.TrackLaw) (watch : BitVec 16) : (s.takeStep watch).TrackLaw := by
  have computed := (h.applyDue (s.seq.step + 1)).computeStep watch (s.seq.step + 1)
  exact .ite (fun _ => computed.expireOverdue) fun _ => computed

theorem TrackLaw.actOnStrobe (h : s.TrackLaw) (watch : BitVec 16) : (s.actOnStrobe watch).TrackLaw := by
  unfold State.actOnStrobe
  split
  case h_1 => exact .ite (fun _ => h.takeStep watch) fun _ => h.of_plan_eq (by simp) (by simp)
  case h_2 => exact .ite (fun _ => (h.takeStep watch).of_plan_eq (by simp) (by simp)) fun _ => h
  all_goals exact h

theorem TrackLaw.cadence (h : s.TrackLaw) (spacing : Nat) : (s.cadence spacing).TrackLaw := h.of_plan_eq (by simp) (by simp)

theorem TrackLaw.strobe (h : s.TrackLaw) (watch : BitVec 16) (order : StrobeOrder) : (s.strobe watch order).TrackLaw := by
  have hstruck : s.struck.TrackLaw := h
  cases order
  · exact (hstruck.actOnStrobe watch).cadence _
  · exact (hstruck.cadence _).actOnStrobe watch

/-! ### Beat frames -/

theorem TrackLaw.readBeatFields (h : s.TrackLaw) (f : BeatFields) : (s.readBeatFields f).TrackLaw := by
  have restarted : s.watchdogRestarted.TrackLaw := h
  have synced : (s.originRead f).TrackLaw := .ite (fun _ => restarted.performOrigin _) fun _ => restarted
  exact synced

theorem placeRequest_tracks (s : State) (bytes : List Byte) :
    (s.placeRequest bytes).1.tracks = s.tracks ∧ (s.placeRequest bytes).1.plan = s.plan := by
  unfold placeRequest; (repeat' split) <;> exact ⟨rfl, rfl⟩

theorem TrackLaw.passBeat (h : s.TrackLaw) (bytes : List Byte) : (s.passBeat bytes).TrackLaw := by
  have read := (h.readBeatFields (readBeat bytes)).readActivation (readBeat bytes) (s.seq.mustOrigin (readBeat bytes))
  obtain ⟨htracks, hplan⟩ := placeRequest_tracks
    ((s.readBeatFields (readBeat bytes)).readActivation (readBeat bytes) (s.seq.mustOrigin (readBeat bytes))) bytes
  exact read.of_plan_eq htracks hplan

/-- The end of an announced activation leaves both banks (R154). -/
@[simp] theorem completeActivation_banks (s : State) (f : BeatFields) (e : OutstandingBeat) :
    (s.completeActivation f e).plan.live = s.plan.live ∧ (s.completeActivation f e).plan.staged = s.plan.staged := by
  unfold completeActivation; split <;> exact ⟨rfl, rfl⟩

@[simp] theorem takeHead_banks (s : State) (f : BeatFields) :
    (s.takeHead f).plan.live = s.plan.live ∧ (s.takeHead f).plan.staged = s.plan.staged := by
  unfold takeHead processReturn; split <;> simp

theorem takeBeat_banks (s : State) (bytes : List Byte) :
    (s.takeBeat bytes).plan.live = s.plan.live ∧ (s.takeBeat bytes).plan.staged = s.plan.staged := by
  unfold takeBeat; dsimp only; split <;> simp

theorem TrackLaw.takeBeat (h : s.TrackLaw) (bytes : List Byte) : (s.takeBeat bytes).TrackLaw := by
  obtain ⟨hlive, hstaged⟩ := s.takeBeat_banks bytes
  exact h.of_frame (by simp) (by rw [hlive]) (by rw [hstaged])

/-! ### Service commands -/

/-- The only table whose writes reach the law is the staged bank's records (R24). -/
theorem TrackLaw.writeField (h : s.TrackLaw) {table : TableName} {index field v : Nat}
    (hw : s.writeField table index field v = some t) : t.TrackLaw := by
  cases table <;> simp only [State.writeField] at hw
  case trackStaged =>
    split at hw
    · obtain ⟨r, hr, rfl⟩ := Option.map_eq_some_iff.mp hw
      refine trackLaw_of_plan ⟨fun i => ?_, h.plan.live⟩ h.fits
      simp only [setStaged, setPlan_plan, Fin.getElem_fin, Vector.getElem_set]
      split
      · exact TrackRecord.Ranged.write (h.plan.staged ⟨index, ‹_›⟩) hr
      · exact h.plan.staged i
    · cases hw
  case laneStaged | cellStaged | event | source =>
    split at hw
    · obtain ⟨x, -, rfl⟩ := Option.map_eq_some_iff.mp hw
      exact h.of_frame rfl rfl rfl
    · cases hw
  case headerStaged | gate | mask =>
    obtain ⟨x, -, rfl⟩ := Option.map_eq_some_iff.mp hw
    exact h.of_frame (by simp [setStaged]) (by simp [setStaged]) (by simp [setStaged])
  all_goals cases hw

theorem TrackLaw.writeAt (h : s.TrackLaw) (table : TableName) (index field v : Nat) :
    (s.writeAt table index field v).state.TrackLaw := by
  unfold State.writeAt
  (repeat' split)
  case h_2 hw => exact h.writeField hw
  all_goals exact h

theorem TrackLaw.bitsAt (h : s.TrackLaw) (table : TableName) (index field v : Nat)
    (change : Vector Bool 8 → Nat → Vector Bool 8) (reply : Vector Bool 8 → Nat) :
    (s.bitsAt table index field v change reply).state.TrackLaw := by
  unfold State.bitsAt setBitLevels
  (repeat' split) <;> exact h

theorem TrackLaw.onTable (h : s.TrackLaw) (f : ServiceFrame) {act : TableName → Answer} (hact : ∀ table, (act table).state.TrackLaw) :
    (s.onTable f act).state.TrackLaw := by
  unfold State.onTable
  split
  · exact h
  · exact hact _

theorem TrackLaw.atCursor (h : s.TrackLaw) (f : ServiceFrame) {act : TableName → Nat → Answer}
    (hact : ∀ table n, (act table n).state.TrackLaw) : (s.atCursor f act).state.TrackLaw := by
  unfold State.atCursor Answer.advancing
  dsimp only
  (repeat' split)
  · exact h
  · exact hact _ _
  · exact hact _ _

/-- COPY_LIVE stages lawful records, which are in their ranges (R169). -/
theorem TrackLaw.serveCopyLive (h : s.TrackLaw) : s.serveCopyLive.state.TrackLaw := by
  unfold State.serveCopyLive
  split
  · exact h
  · exact trackLaw_of_plan ⟨fun i => (h.plan.live i).ranged, h.plan.live⟩ h.fits

theorem TrackLaw.perform (h : s.TrackLaw) (c : CommandName) (f : ServiceFrame) : (s.perform c f).state.TrackLaw := by
  cases c <;> simp only [State.perform]
  case read => exact h.onTable f fun _ => by rwa [readAt_state]
  case write => exact h.onTable f fun _ => h.writeAt _ _ _ _
  case cursor => exact h.onTable f fun _ => by split <;> exact h
  case readNext => exact h.atCursor f fun _ _ => by rwa [readAt_state]
  case writeNext => exact h.atCursor f fun _ _ => h.writeAt _ _ _ _
  case setBits | clearBits | testSet => exact h.onTable f fun _ => h.bitsAt _ _ _ _ _ _
  case copyLive => exact h.serveCopyLive
  case takeNotice => unfold serveTakeNotice; split <;> exact h
  case resetPart => exact h.resetPart
  case run => unfold serveRun tryRun; (repeat' split) <;> exact h.of_plan_eq (by simp [refuse, accept]) (by simp [refuse, accept])
  case runFor =>
    unfold serveRunFor tryRun
    dsimp only
    (repeat' split) <;> exact h.of_plan_eq (by simp [refuse, accept]) (by simp [refuse, accept])
  case pause => unfold servePause; (repeat' split) <;> exact h.of_plan_eq (by simp [refuse, accept]) (by simp [refuse, accept])
  case clearBreak => unfold serveClearBreak; (repeat' split) <;> exact h
  case origin => unfold serveOrigin; (repeat' split) <;> first | exact h | exact h.announceOrigin
  case swap => unfold serveSwap; (repeat' split) <;> exact h
  case enumerate => unfold serveEnumerate; (repeat' split) <;> exact h

theorem TrackLaw.takeService (h : s.TrackLaw) (code : BitVec 8) (f : ServiceFrame) : (s.takeService code f).TrackLaw := by
  have answered : (s.answer code f).state.TrackLaw := by
    unfold State.answer
    (repeat' split)
    case isFalse.isFalse => exact h.perform _ f
    all_goals exact h
  exact .ite (fun _ => answered) fun _ => h

/-! ### Arrivals -/

theorem TrackLaw.takeFrame (h : s.TrackLaw) (bytes : List Byte) : (s.takeFrame bytes).TrackLaw := by
  have beat (frame : List Byte) : (s.dispatchBeat frame).TrackLaw := by
    unfold dispatchBeat
    split
    · exact h.passBeat frame
    · exact h.takeBeat frame
  refine .ite (fun _ => ?_) fun _ => h
  unfold dispatch
  split
  case h_1 => exact h
  case h_2 => exact .ite (fun _ => h) fun _ => beat _
  case h_3 => exact h.takeService _ _
  case h_4 => exact h.of_plan_eq (by simp) (by simp)

theorem TrackLaw.onArrival (h : s.TrackLaw) {act : State → State} (hact : ∀ u : State, u.TrackLaw → (act u).TrackLaw) :
    (s.onArrival act).TrackLaw := by
  have ended : (s.setReception .between).TrackLaw := h
  exact .ite (fun _ => hact _ ended) fun _ => ended

theorem TrackLaw.frameCompletedEarly (h : s.TrackLaw) (bytes : List Byte) : (s.frameCompletedEarly bytes).TrackLaw := by
  have ended : (s.setReception .ended).TrackLaw := h
  exact .ite (fun _ => ended.takeFrame bytes) fun _ => h

end State
end Sys2Proof.Machine
end

section
/-! SUPPORT. The law of the tracks over every command and every tick (R26, R40). -/

namespace Sys2Proof.Machine

/-- A hardware reset leaves the tracks and banks of the state after power-on (R47). -/
theorem State.hardwareReset_trackLaw (s : State) (cause : ResetCause) (level : Bool) : (s.hardwareReset cause level).TrackLaw :=
  State.reset_trackLaw.of_plan_eq rfl rfl

/-- A loss of the reference reaches neither the tracks nor the plan (R7). -/
theorem State.TrackLaw.loseReference {s : State} (h : s.TrackLaw) : s.loseReference.TrackLaw := by
  unfold State.loseReference
  dsimp only
  split <;> exact h.of_plan_eq (by simp) (by simp)

/-- The watchdog's expiry reaches neither the tracks nor the plan (R17). -/
theorem State.TrackLaw.expireWatchdog {s : State} (h : s.TrackLaw) : s.expireWatchdog.TrackLaw := by
  unfold State.expireWatchdog
  dsimp only
  split <;> exact h.of_plan_eq (by simp) (by simp)

theorem State.TrackLaw.tick {s : State} (h : s.TrackLaw) : s.tick.TrackLaw := by
  unfold State.tick referencePeriod microsecond
  dsimp only
  (repeat' split) <;> exact h

/-- Every command keeps the law of the tracks. -/
theorem Effect.trackLaw {s t : State} {c : Instr} (he : Effect s c t) (h : s.TrackLaw) : t.TrackLaw := by
  cases he
  case reset cause level _ => exact s.hardwareReset_trackLaw cause level
  case loss => exact h.loseReference
  case watchdog => exact h.expireWatchdog
  case strobe watch order _ => exact h.strobe watch order
  case enum f _ => exact h.onArrival fun u hu => hu.of_plan_eq (by simp) (by simp)
  case service code f _ => exact h.onArrival fun u hu => hu.takeService code f
  case arrival bytes _ => exact h.onArrival fun u hu => hu.takeFrame bytes
  case early bytes _ => exact h.frameCompletedEarly bytes
  case cut bytes _ => exact h.frameCompletedEarly bytes
  case deferred => exact h.of_plan_eq (by simp) (by simp)
  case returnTimeout => exact h.of_plan_eq (by simp) (by simp)
  all_goals exact h

/-- Settles O10: a tick leaves tracks and banks, and `Effect.trackLaw` is the law over a command. -/
theorem stepKeepsTrackLaw : Obligations.StepKeepsTrackLaw := by
  intro s t hs h
  unfold step at h
  split at h
  · cases h
    exact hs.tick
  case h_2 c rest _ => exact (effect_of_exec h).trackLaw (s := s.setPending rest) hs

end Sys2Proof.Machine
end

section
/-! SUPPORT. What a hardware reset leaves in every block but the sequencer (R47, R57, R76, R94, R109, R128, R149, R161, R162). -/

namespace Sys2Proof.Machine

namespace State

variable (s : State) (cause : ResetCause) (level : Bool)

theorem hardwareReset_track (i : Fin 24) : (s.hardwareReset cause level).tracks[i] = TrackRun.default :=
  Vector.getElem_replicate _

theorem hardwareReset_lane (i : Fin 32) : (s.hardwareReset cause level).lanes[i] = LaneRun.default :=
  Vector.getElem_replicate _

theorem hardwareReset_cell (i : Fin 16) : (s.hardwareReset cause level).cells[i] = CellRun.default :=
  Vector.getElem_replicate _

theorem hardwareReset_liveTrack (i : Fin 24) :
    (s.hardwareReset cause level).plan.live.tracks[i] = TrackRecord.default := Vector.getElem_replicate _

theorem hardwareReset_liveLane (i : Fin 32) :
    (s.hardwareReset cause level).plan.live.lanes[i] = LaneRecord.default := Vector.getElem_replicate _

theorem hardwareReset_liveCell (i : Fin 16) :
    (s.hardwareReset cause level).plan.live.cells[i] = CellConfig.default := Vector.getElem_replicate _

theorem hardwareReset_entry (i : Fin 32) :
    (s.hardwareReset cause level).events.entries[i] = EventEntry.default := Vector.getElem_replicate _

theorem hardwareReset_flags (g : Fin 8) :
    (s.hardwareReset cause level).events.gates[g] = false ∧ (s.hardwareReset cause level).events.markers[g] = false :=
  ⟨Vector.getElem_replicate _, Vector.getElem_replicate _⟩

theorem hardwareReset_source (i : Fin 36) :
    (s.hardwareReset cause level).requests.waiting[i] = none ∧
      (s.hardwareReset cause level).requests.settings[i] = SourceSetting.default i :=
  ⟨Vector.getElem_replicate _, getElem_tabulate _ _ _⟩

end State

/-- The history of a lane after a hardware reset is all 0 (R56). -/
theorem LaneRun.default_history (k : Fin 16) : LaneRun.default.history[k] = false := Vector.getElem_replicate _

/-- The truth table of the default configuration is all 0 (R76). -/
theorem CellConfig.default_truth (k : Fin 8) : CellConfig.default.truth[k] = false := Vector.getElem_replicate _

/-- Settles O5: both resets are `State.hardwareReset`, whose tables hold one default in every row. -/
theorem hardwareResetBlocks : Obligations.HardwareResetBlocks := by
  intro s c hc
  obtain ⟨cause, level, hexec, hlevel⟩ : ∃ cause level, exec c s = .next (s.hardwareReset cause level) ∧
      level = if c = .powerOn then s.seq.resetN else false := by
    rcases hc with rfl | rfl
    · exact ⟨_, _, rfl, rfl⟩
    · exact ⟨_, _, rfl, rfl⟩
  refine ⟨s.hardwareReset cause level, hexec, fun i => ?_, fun i => ?_, fun i => ⟨?_, ?_, fun k => ?_⟩, fun i => ?_, rfl, rfl, rfl,
    rfl, rfl, rfl, rfl, rfl, fun i => ?_, s.hardwareReset_flags cause level, s.hardwareReset_source cause level, rfl, rfl, rfl, rfl,
    rfl, rfl, rfl, rfl, rfl, rfl, hlevel⟩
  · rw [State.hardwareReset_track]; rfl
  · rw [State.hardwareReset_liveTrack]; rfl
  · rw [State.hardwareReset_liveLane]; rfl
  · rw [State.hardwareReset_lane]; rfl
  · simp only [State.hardwareReset_lane]; exact LaneRun.default_history k
  · simp only [State.hardwareReset_liveCell, State.hardwareReset_cell]
    exact ⟨rfl, rfl, rfl, rfl, rfl, rfl, rfl, CellConfig.default_truth, rfl⟩
  · rw [State.hardwareReset_entry]; rfl

end Sys2Proof.Machine
end

section
/-! SUPPORT. Codes and ranges of fields (R24, R48, R58, R77, R97, R98, R150, R173, R174): each reader of a field's number takes the numbers
of a range and is undone by the field's code. -/

namespace Sys2Proof.Machine

/-- `decode` takes exactly the numbers from `low` to `high`, and what it makes of a number has that number as its code. -/
structure Codec {α : Type} (decode : Nat → Option α) (code : α → Nat) (low high : Nat) : Prop where
  isSome_iff (v : Nat) : (decode v).isSome = true ↔ low ≤ v ∧ v ≤ high
  code_eq {v : Nat} {x : α} : decode v = some x → code x = v

/-- A write that stores what `decode` gives takes a value exactly in the range. -/
theorem Codec.isSome_map_iff {α β : Type} {decode : Nat → Option α} {code : α → Nat} {low high : Nat}
    (h : Codec decode code low high) (store : α → β) (v : Nat) : ((decode v).map store).isSome = true ↔ low ≤ v ∧ v ≤ high := by
  rw [Option.isSome_map]; exact h.isSome_iff v

theorem within_codec (low high : Nat) : Codec (within low high) id low high where
  isSome_iff v := by simp [within]
  code_eq h := by
    unfold within at h
    split at h <;> cases h
    rfl

theorem indexBelow_codec (n : Nat) : Codec (indexBelow (n + 1)) Fin.val 0 n where
  isSome_iff v := by simp [indexBelow]
  code_eq h := by
    unfold indexBelow at h
    split at h <;> cases h
    rfl

/-- A choice of two is coded 0 and 1. -/
theorem choose_codec {α : Type} {zero one : α} {code : α → Nat} (hzero : code zero = 0) (hone : code one = 1) :
    Codec (fun v => choose v zero one) code 0 1 where
  isSome_iff v :=
    match v with
    | 0 | 1 => by simp [choose]
    | n + 2 => by simp [choose]
  code_eq h := by
    unfold choose at h
    split at h <;> cases h
    · exact hzero
    · exact hone

theorem choose_bool_codec : Codec (fun v => choose v false true) Bool.toNat 0 1 := choose_codec rfl rfl

theorem GatePolarity.codec : Codec (fun v => choose v GatePolarity.openHigh GatePolarity.openLow) GatePolarity.code 0 1 := choose_codec rfl rfl

theorem GateStyle.codec : Codec (fun v => choose v GateStyle.clean GateStyle.hard) GateStyle.code 0 1 := choose_codec rfl rfl

theorem EventType.codec : Codec (fun v => choose v EventType.compare EventType.capture) EventType.code 0 1 := choose_codec rfl rfl

theorem EventBase.codec : Codec (fun v => choose v EventBase.step EventBase.edges) EventBase.code 0 1 := choose_codec rfl rfl

theorem CaptureEdge.codec : Codec (fun v => choose v CaptureEdge.rise CaptureEdge.fall) CaptureEdge.code 0 1 := choose_codec rfl rfl

theorem RequestWhen.codec : Codec (fun v => choose v RequestWhen.each RequestWhen.last) RequestWhen.code 0 1 := choose_codec rfl rfl

theorem TrackMode.codec : Codec TrackMode.ofCode TrackMode.code 0 2 where
  isSome_iff v :=
    match v with
    | 0 | 1 | 2 => by decide
    | n + 3 => by simp [ofCode]
  code_eq h := by unfold ofCode at h; split at h <;> cases h <;> rfl

theorem CellMode.codec : Codec CellMode.ofCode CellMode.code 0 5 where
  isSome_iff v :=
    match v with
    | 0 | 1 | 2 | 3 | 4 | 5 => by decide
    | n + 6 => by simp [ofCode]
  code_eq h := by unfold ofCode at h; split at h <;> cases h <;> rfl

theorem CellEdge.codec : Codec CellEdge.ofCode CellEdge.code 0 2 where
  isSome_iff v :=
    match v with
    | 0 | 1 | 2 => by decide
    | n + 3 => by simp [ofCode]
  code_eq h := by unfold ofCode at h; split at h <;> cases h <;> rfl

theorem GateOp.codec : Codec GateOp.ofCode GateOp.code 0 3 where
  isSome_iff v :=
    match v with
    | 0 | 1 | 2 | 3 => by decide
    | n + 4 => by simp [ofCode]
  code_eq h := by unfold ofCode at h; split at h <;> cases h <;> rfl

theorem kindOfCode_codec : Codec kindOfCode kindCode 0 3 where
  isSome_iff v :=
    match v with
    | 0 | 1 | 2 | 3 => by decide
    | n + 4 => by simp [kindOfCode]
  code_eq h := by unfold kindOfCode at h; split at h <;> cases h <;> rfl

theorem GateSource.codec : Codec GateSource.ofCode GateSource.code 0 24 where
  isSome_iff v := by unfold ofCode; (repeat' split) <;> simp <;> omega
  code_eq h := by
    unfold ofCode at h
    (repeat' split at h) <;> cases h <;> simp only [code] <;> omega

theorem LaneSource.codec : Codec LaneSource.ofCode LaneSource.code 0 25 where
  isSome_iff v := by unfold ofCode; (repeat' split) <;> simp <;> omega
  code_eq h := by
    unfold ofCode at h
    (repeat' split at h) <;> cases h <;> simp only [code] <;> omega

/-- The code of a marker, 0 for NONE (R174). -/
def markerCode : Option (Fin 8) → Nat
  | none => 0
  | some m => m.val + 1

theorem markerOfCode_codec : Codec markerOfCode markerCode 0 8 where
  isSome_iff v := by
    unfold markerOfCode
    split
    · simp; omega
    · rw [(indexBelow_codec 7).isSome_map_iff]; omega
  code_eq {v x} h := by
    unfold markerOfCode at h
    split at h
    · cases h; exact Eq.symm ‹_›
    · obtain ⟨m, hm, rfl⟩ := Option.map_eq_some_iff.mp h
      have := (indexBelow_codec 7).code_eq hm
      simp only [markerCode]
      omega

/-! ### Words of levels (R173) -/

theorem testBit_wordOfList (l : List Bool) (k : Nat) : (wordOfList l).testBit k = l.getD k false := by
  induction l generalizing k with
  | nil => simp [wordOfList]
  | cons b rest ih =>
    cases k with
    | zero => cases b <;> simp [wordOfList]
    | succ k =>
      have hhalf : wordOfList (b :: rest) / 2 = wordOfList rest := by
        cases b <;> simp only [wordOfList, Bool.toNat_false, Bool.toNat_true] <;> omega
      rw [Nat.testBit_succ, hhalf, ih, List.getD_cons_succ]

/-- Bit `k` of a word is level `k`. -/
theorem testBit_wordOf {n : Nat} (levels : Vector Bool n) (k : Nat) : (wordOf levels).testBit k = (levels[k]?).getD false := by
  simp [wordOf, testBit_wordOfList]

/-- A word below 2^n is read back from its levels. -/
theorem wordOf_levelsOf {n v : Nat} (h : v < 2 ^ n) : wordOf (levelsOf n v) = v := by
  refine Nat.eq_of_testBit_eq fun k => ?_
  rw [testBit_wordOf]
  by_cases hk : k < n
  · simp [levelsOf, hk]
  · have hbit : v.testBit k = false :=
      Nat.testBit_lt_two_pow (h.trans_le (Nat.pow_le_pow_right (by decide) (Nat.le_of_not_lt hk)))
    simp [hk, hbit]

end Sys2Proof.Machine
end

section
/-! SUPPORT. Writes of a record's fields (R24, R48, R58, R77, R78, R150, R173, R174): which values each field takes, what is then read from
it, and what the other fields still read. -/

namespace Sys2Proof.Machine

/-! ### Ranges, field by field -/

/-- Each field of a record takes the value `v` exactly if it is in the field's range. -/
def TakesRanges (accepts : Nat → Bool) (v : Nat) (ranges : List (Nat × Nat)) : Prop :=
  ∀ field low high : Nat, ranges[field]? = some (low, high) → (accepts field = true ↔ low ≤ v ∧ v ≤ high)

theorem takesRanges_nil (accepts : Nat → Bool) (v : Nat) : TakesRanges accepts v [] := fun _ _ _ h => nomatch h

theorem TakesRanges.cons {accepts : Nat → Bool} {v low high : Nat} {ranges : List (Nat × Nat)}
    (hfirst : accepts 0 = true ↔ low ≤ v ∧ v ≤ high) (hrest : TakesRanges (fun field => accepts (field + 1)) v ranges) :
    TakesRanges accepts v ((low, high) :: ranges) := by
  intro field l h hrange
  cases field with
  | zero => cases hrange; exact hfirst
  | succ field => exact hrest field l h hrange

theorem TrackRecord.write_ranges (r : TrackRecord) (v : Nat) : TakesRanges (fun field => (r.write field v).isSome) v
    [(0, 2), (0, 23), (1, 4095), (1, 65535), (1, 65535), (0, 1), (0, 65535), (0, 24), (0, 1), (0, 1), (0, 1)] :=
  .cons (TrackMode.codec.isSome_map_iff _ v) <| .cons ((indexBelow_codec 23).isSome_map_iff _ v) <|
  .cons ((within_codec 1 4095).isSome_map_iff _ v) <| .cons ((within_codec 1 65535).isSome_map_iff _ v) <|
  .cons ((within_codec 1 65535).isSome_map_iff _ v) <| .cons (choose_bool_codec.isSome_map_iff _ v) <|
  .cons ((within_codec 0 65535).isSome_map_iff _ v) <| .cons (GateSource.codec.isSome_map_iff _ v) <|
  .cons (GatePolarity.codec.isSome_map_iff _ v) <| .cons (GateStyle.codec.isSome_map_iff _ v) <|
  .cons (choose_bool_codec.isSome_map_iff _ v) <| takesRanges_nil _ v

theorem LaneRecord.write_ranges (r : LaneRecord) (v : Nat) : TakesRanges (fun field => (r.write field v).isSome) v
    [(0, 25), (0, 1), (0, 15)] :=
  .cons (LaneSource.codec.isSome_map_iff _ v) <| .cons (choose_bool_codec.isSome_map_iff _ v) <|
  .cons ((indexBelow_codec 15).isSome_map_iff _ v) <| takesRanges_nil _ v

theorem CellConfig.write_ranges (c : CellConfig) (v : Nat) : TakesRanges (fun field => (c.write field v).isSome) v
    [(0, 63), (0, 63), (0, 63), (0, 255), (0, 5), (0, 2), (1, 4095), (0, 1), (0, 1), (0, 1), (0, 1), (0, 1), (0, 1),
      (0, 1), (0, 1), (0, 1)] :=
  .cons ((indexBelow_codec 63).isSome_map_iff _ v) <| .cons ((indexBelow_codec 63).isSome_map_iff _ v) <|
  .cons ((indexBelow_codec 63).isSome_map_iff _ v) <| .cons ((within_codec 0 255).isSome_map_iff _ v) <|
  .cons (CellMode.codec.isSome_map_iff _ v) <| .cons (CellEdge.codec.isSome_map_iff _ v) <|
  .cons ((within_codec 1 4095).isSome_map_iff _ v) <| .cons (choose_bool_codec.isSome_map_iff _ v) <|
  .cons (choose_bool_codec.isSome_map_iff _ v) <| .cons (choose_bool_codec.isSome_map_iff _ v) <|
  .cons (choose_bool_codec.isSome_map_iff _ v) <| .cons (choose_bool_codec.isSome_map_iff _ v) <|
  .cons (choose_bool_codec.isSome_map_iff _ v) <| .cons (choose_bool_codec.isSome_map_iff _ v) <|
  .cons (choose_bool_codec.isSome_map_iff _ v) <| .cons (choose_bool_codec.isSome_map_iff _ v) <| takesRanges_nil _ v

theorem Header.write_ranges (h : Header) (v : Nat) : TakesRanges (fun field => (h.write field v).isSome) v
    [(4, 65535), (1, 64), (1, 4095), (1, 65535), (1, 65535)] :=
  .cons ((within_codec 4 65535).isSome_map_iff _ v) <| .cons ((within_codec 1 64).isSome_map_iff _ v) <|
  .cons ((within_codec 1 4095).isSome_map_iff _ v) <| .cons ((within_codec 1 65535).isSome_map_iff _ v) <|
  .cons ((within_codec 1 65535).isSome_map_iff _ v) <| takesRanges_nil _ v

theorem EventEntry.write_ranges (e : EventEntry) (v : Nat) : TakesRanges (fun field => (e.write field v).isSome) v
    [(0, 1), (0, 1), (0, 1), (0, 23), (0, 2 ^ 32 - 1), (0, 65535), (0, 2 ^ 32 - 1), (0, 15), (0, 1), (0, 1), (0, 65535),
      (0, 3), (0, 7), (0, 8), (0, 3), (0, 1)] :=
  .cons (choose_bool_codec.isSome_map_iff _ v) <| .cons (EventType.codec.isSome_map_iff _ v) <|
  .cons (EventBase.codec.isSome_map_iff _ v) <| .cons ((indexBelow_codec 23).isSome_map_iff _ v) <|
  .cons ((within_codec 0 (2 ^ 32 - 1)).isSome_map_iff _ v) <| .cons ((within_codec 0 65535).isSome_map_iff _ v) <|
  .cons ((within_codec 0 (2 ^ 32 - 1)).isSome_map_iff _ v) <| .cons ((indexBelow_codec 15).isSome_map_iff _ v) <|
  .cons (CaptureEdge.codec.isSome_map_iff _ v) <| .cons (choose_bool_codec.isSome_map_iff _ v) <|
  .cons ((within_codec 0 65535).isSome_map_iff _ v) <| .cons (GateOp.codec.isSome_map_iff _ v) <|
  .cons ((indexBelow_codec 7).isSome_map_iff _ v) <| .cons (markerOfCode_codec.isSome_map_iff _ v) <|
  .cons (kindOfCode_codec.isSome_map_iff _ v) <| .cons (RequestWhen.codec.isSome_map_iff _ v) <| takesRanges_nil _ v

theorem RequestUnit.write_ranges (u : RequestUnit) (i : Fin 36) (v : Nat) :
    TakesRanges (fun field => (u.write i field v).isSome) v [(0, 1), (0, 3), (0, 3)] :=
  .cons (choose_bool_codec.isSome_map_iff _ v) <| .cons ((indexBelow_codec 3).isSome_map_iff _ v) <|
  .cons (kindOfCode_codec.isSome_map_iff _ v) <| takesRanges_nil _ v

/-! ### Reading back -/

/-- After a write of a track field it reads the value written and every other field reads as before (R173). -/
theorem TrackRecord.field_write {r r' : TrackRecord} {field v : Nat} (h : r.write field v = some r') :
    r'.field field = v ∧ ∀ g, g ≠ field → r'.field g = r.field g := by
  unfold TrackRecord.write at h
  split at h
  case h_12 => cases h
  all_goals obtain ⟨x, hx, rfl⟩ := Option.map_eq_some_iff.mp h
  all_goals refine ⟨?_, fun g hg => by unfold TrackRecord.field; split <;> simp_all⟩
  case h_1 => exact TrackMode.codec.code_eq hx
  case h_2 => exact (indexBelow_codec 23).code_eq hx
  case h_3 => exact (within_codec 1 4095).code_eq hx
  case h_4 | h_5 => exact (within_codec 1 65535).code_eq hx
  case h_6 | h_11 => exact choose_bool_codec.code_eq hx
  case h_7 => exact (within_codec 0 65535).code_eq hx
  case h_8 => exact GateSource.codec.code_eq hx
  case h_9 => exact GatePolarity.codec.code_eq hx
  case h_10 => exact GateStyle.codec.code_eq hx

theorem LaneRecord.field_write {r r' : LaneRecord} {field v : Nat} (h : r.write field v = some r') :
    r'.field field = v ∧ ∀ g, g ≠ field → r'.field g = r.field g := by
  unfold LaneRecord.write at h
  split at h
  case h_4 => cases h
  all_goals obtain ⟨x, hx, rfl⟩ := Option.map_eq_some_iff.mp h
  all_goals refine ⟨?_, fun g hg => by unfold LaneRecord.field; split <;> simp_all⟩
  case h_1 => exact LaneSource.codec.code_eq hx
  case h_2 => exact choose_bool_codec.code_eq hx
  case h_3 => exact (indexBelow_codec 15).code_eq hx

theorem Header.field_write {r r' : Header} {field v : Nat} (h : r.write field v = some r') :
    r'.field field = v ∧ ∀ g, g ≠ field → r'.field g = r.field g := by
  unfold Header.write at h
  split at h
  case h_6 => cases h
  all_goals obtain ⟨x, hx, rfl⟩ := Option.map_eq_some_iff.mp h
  all_goals exact ⟨(within_codec _ _).code_eq hx, fun g hg => by unfold Header.field; split <;> simp_all⟩

theorem lowPart_lt (n : Nat) : lowPart n < 2 ^ 32 := Nat.mod_lt _ (Nat.two_pow_pos 32)

/-- The parts of a value put together from a high and a low part (R166). -/
theorem lowPart_join (high : Nat) {low : Nat} (h : low < 2 ^ 32) : lowPart (high * 2 ^ 32 + low) = low := by
  unfold lowPart; omega

theorem highPart_join (high : Nat) {low : Nat} (h : low < 2 ^ 32) : highPart (high * 2 ^ 32 + low) = high := by
  unfold highPart; omega

theorem EventEntry.field_lowValue (e : EventEntry) : e.field 4 = lowPart e.value := rfl
theorem EventEntry.field_highValue (e : EventEntry) : e.field 5 = highPart e.value := rfl

/-- After a write of an event field the same holds, but that the limit reloads remaining and clears done (R78). -/
theorem EventEntry.field_write {e e' : EventEntry} {field v : Nat} (h : e.write field v = some e') :
    e'.field field = v ∧ (∀ g, g ≠ field → ¬ (field = 10 ∧ (g = 16 ∨ g = 18)) → e'.field g = e.field g) ∧
      (field = 10 → e'.field 16 = v ∧ e'.field 18 = 0) := by
  unfold EventEntry.write at h
  split at h
  case h_17 => cases h
  all_goals obtain ⟨x, hx, rfl⟩ := Option.map_eq_some_iff.mp h
  case h_11 =>
    have hv := (within_codec 0 65535).code_eq hx
    refine ⟨hv, fun g hg hrun => ?_, fun _ => ⟨hv, rfl⟩⟩
    unfold EventEntry.field; split <;> simp_all
  case h_5 =>
    obtain rfl : x = v := (within_codec 0 (2 ^ 32 - 1)).code_eq hx
    have hlow : x < 2 ^ 32 := by
      obtain ⟨-, hmax⟩ := ((within_codec 0 (2 ^ 32 - 1)).isSome_iff x).mp (by rw [hx]; rfl)
      omega
    have hhigh := highPart_join (highPart e.value) hlow
    refine ⟨(field_lowValue _).trans (lowPart_join _ hlow), fun g hg _ => ?_, fun h => by simp at h⟩
    clear hlow
    unfold EventEntry.field; split <;> simp_all
  case h_6 =>
    obtain rfl : x = v := (within_codec 0 65535).code_eq hx
    have hlow := lowPart_lt e.value
    have hkept := lowPart_join x hlow
    refine ⟨(field_highValue _).trans (highPart_join _ hlow), fun g hg _ => ?_, fun h => by simp at h⟩
    clear hlow
    unfold EventEntry.field; split <;> simp_all
  all_goals refine ⟨?_, fun g hg _ => by unfold EventEntry.field; split <;> simp_all, fun h => by simp at h⟩
  case h_1 | h_10 => exact choose_bool_codec.code_eq hx
  case h_2 => exact EventType.codec.code_eq hx
  case h_3 => exact EventBase.codec.code_eq hx
  case h_4 => exact (indexBelow_codec 23).code_eq hx
  case h_7 => exact (within_codec 0 (2 ^ 32 - 1)).code_eq hx
  case h_8 => exact (indexBelow_codec 15).code_eq hx
  case h_9 => exact CaptureEdge.codec.code_eq hx
  case h_12 => exact GateOp.codec.code_eq hx
  case h_13 => exact (indexBelow_codec 7).code_eq hx
  case h_14 => exact markerOfCode_codec.code_eq hx
  case h_15 => exact kindOfCode_codec.code_eq hx
  case h_16 => exact RequestWhen.codec.code_eq hx

/-! ### The truth table (R173) -/

/-- Fields 8 to 15 are the entries of the truth table. -/
theorem CellConfig.field_entry (c : CellConfig) (k : Fin 8) : c.field (8 + k.val) = (c.truth[k]).toNat := by
  fin_cases k <;> rfl

/-- The truth-table word's bit `k` is entry `k`. -/
theorem CellConfig.testBit_field_word (c : CellConfig) (k : Fin 8) : (c.field 3).testBit k.val = c.truth[k] := by
  have hword : c.field 3 = wordOf c.truth := rfl
  rw [hword, testBit_wordOf]
  simp

/-- The truth table is in no field below 8 but the word. -/
theorem CellConfig.field_truth (c : CellConfig) (truth : Vector Bool 8) {g : Nat} (hg : g < 8) (hword : g ≠ 3) :
    ({ c with truth } : CellConfig).field g = c.field g := by
  match g, hg, hword with
  | 0, _, _ | 1, _, _ | 2, _, _ | 4, _, _ | 5, _, _ | 6, _, _ | 7, _, _ => rfl
  | 3, _, hword => exact absurd rfl hword
  | n + 8, hg, _ => omega

/-- A change of one entry of the truth table leaves the other fields but the word. -/
theorem CellConfig.field_set_entry (c : CellConfig) (k : Fin 8) (x : Bool) {g : Nat} (hg : g ≠ 8 + k.val) (hword : g ≠ 3) :
    ({ c with truth := c.truth.set k x } : CellConfig).field g = c.field g := by
  rcases Nat.lt_or_ge g 8 with hlt | hge
  · exact c.field_truth _ hlt hword
  · obtain ⟨j, rfl⟩ := Nat.exists_eq_add_of_le' hge
    have hne : k.val ≠ j := by omega
    simp [CellConfig.field, hne]

/-- The write of a truth-table entry. -/
theorem CellConfig.write_entry (c : CellConfig) (k : Fin 8) (v : Nat) :
    c.write (8 + k.val) v = (choose v false true).map fun x => { c with truth := c.truth.set k x } := by
  fin_cases k <;> rfl

/-- After a write of a cell field it reads the value written, and every other field reads as before, but that the truth-table word and
its entries are one table. -/
theorem CellConfig.field_write {c c' : CellConfig} {field v : Nat} (h : c.write field v = some c') :
    c'.field field = v ∧ (∀ g, g ≠ field → ¬ (field = 3 ∧ 8 ≤ g) → ¬ (8 ≤ field ∧ g = 3) → c'.field g = c.field g) := by
  rcases Nat.lt_or_ge field 8 with hlt | hge
  · unfold CellConfig.write at h
    split at h
    case h_9 => interval_cases field <;> simp_all
    all_goals obtain ⟨x, hx, rfl⟩ := Option.map_eq_some_iff.mp h
    case h_4 =>
      obtain rfl : x = v := (within_codec 0 255).code_eq hx
      obtain ⟨-, hmax⟩ := ((within_codec 0 255).isSome_iff x).mp (by rw [hx]; rfl)
      exact ⟨wordOf_levelsOf (n := 8) (by omega), fun g hg hentry _ => c.field_truth _ (by omega) hg⟩
    all_goals refine ⟨?_, fun g hg _ _ => by unfold CellConfig.field; split <;> simp_all⟩
    case h_1 | h_2 | h_3 => exact (indexBelow_codec 63).code_eq hx
    case h_5 => exact CellMode.codec.code_eq hx
    case h_6 => exact CellEdge.codec.code_eq hx
    case h_7 => exact (within_codec 1 4095).code_eq hx
    case h_8 => exact choose_bool_codec.code_eq hx
  · by_cases hentry : field - 8 < 8
    · obtain ⟨k, rfl⟩ : ∃ k : Fin 8, field = 8 + k.val := ⟨⟨field - 8, hentry⟩, by dsimp only; omega⟩
      rw [write_entry] at h
      obtain ⟨x, hx, rfl⟩ := Option.map_eq_some_iff.mp h
      refine ⟨?_, fun g hg _ hword => c.field_set_entry k x hg fun h => hword ⟨hge, h⟩⟩
      rw [field_entry]
      simpa using choose_bool_codec.code_eq hx
    · unfold CellConfig.write at h
      split at h
      case h_9 => simp [hentry] at h
      all_goals omega

/-- The truth-table word and the entries after a write (R173). -/
theorem CellConfig.field_write_table {c c' : CellConfig} {field v : Nat} (h : c.write field v = some c') (k : Fin 8) :
    (field = 3 → c'.field (8 + k.val) = (v.testBit k.val).toNat) ∧
      (8 ≤ field → (c'.field 3).testBit k.val = decide (c'.field (8 + k.val) = 1)) := by
  refine ⟨?_, fun _ => ?_⟩
  · rintro rfl
    have hword : c'.field 3 = v := (field_write h).1
    rw [field_entry, ← testBit_field_word, hword]
  · rw [field_entry, testBit_field_word]
    cases c'.truth[k] <;> rfl

/-! ### The SOURCE, MASK and GATE tables (R89, R97, R98) -/

/-- The re-test of a pending record leaves the source table and M (R102). -/
@[simp] theorem RequestUnit.retest_tables (u : RequestUnit) (i : Fin 36) (level : PendingRequest → Nat) :
    (u.retest i level).settings = u.settings ∧ (u.retest i level).underrunKind = u.underrunKind ∧
      (u.retest i level).clampKind = u.clampKind ∧ (u.retest i level).mask = u.mask := by
  unfold retest; (repeat' split) <;> exact ⟨rfl, rfl, rfl, rfl⟩

theorem RequestUnit.writeMask_mask (u : RequestUnit) (mask : Fin 4) : (u.writeMask mask).mask = mask := by
  have hkept (l : List (Fin 36)) : ∀ v : RequestUnit,
      (l.foldl (fun v source => v.retest source fun p => p.level) v).mask = v.mask := by
    induction l with
    | nil => exact fun _ => rfl
    | cons i rest ih => exact fun v => (ih _).trans (v.retest_tables i _).2.2.2
  exact hkept (List.finRange 36) { u with mask }

theorem State.fieldValue_mask (s : State) (index field : Nat) : s.fieldValue .mask index field = s.requests.mask.val := rfl
theorem State.fieldValue_gate (s : State) (index field : Nat) : s.fieldValue .gate index field = wordOf s.events.gates := rfl

theorem State.fieldValue_source (s : State) (i : Fin 36) (field : Nat) :
    s.fieldValue .source i field = s.sourceField i field := dif_pos i.isLt

theorem State.writeField_source (s : State) (i : Fin 36) (field v : Nat) :
    s.writeField .source i field v = (s.requests.write i field v).map fun u => s.setRequests u := dif_pos i.isLt

theorem State.sourceKind_setRequests {s : State} {u : RequestUnit} {i : Fin 36}
    (hunderrun : i = 32 → u.underrunKind = s.requests.underrunKind) (hclamp : i = 34 → u.clampKind = s.requests.clampKind) :
    (s.setRequests u).sourceKind i = s.sourceKind i := by
  unfold sourceKind
  grind [setRequests_events, setRequests_requests]

/-- After a write of one source's setting: its fields are those of the setting written, and the other sources and all kinds read as
before. -/
theorem State.sourceField_of_setting {s : State} {u : RequestUnit} {i : Fin 36} {setting : SourceSetting}
    (hsettings : u.settings = s.requests.settings.set i setting) (hunderrun : u.underrunKind = s.requests.underrunKind)
    (hclamp : u.clampKind = s.requests.clampKind) :
    (s.setRequests u).sourceField i 0 = setting.enable.toNat ∧ (s.setRequests u).sourceField i 1 = setting.level.val ∧
      ∀ (j : Fin 36) (g : Nat), j ≠ i ∨ 2 ≤ g → (s.setRequests u).sourceField j g = s.sourceField j g := by
  refine ⟨by simp [sourceField, hsettings], by simp [sourceField, hsettings], fun j g hother => ?_⟩
  have hkind := State.sourceKind_setRequests (i := j) (fun _ => hunderrun) (fun _ => hclamp)
  match g with
  | 0 | 1 =>
    have hne : i.val ≠ j.val := fun h => by simp [Fin.ext h] at hother
    simp [sourceField, hsettings, hne]
  | 2 => simp only [sourceField, hkind]
  | g + 3 => rfl

/-- After a write of a source's enable or level (R97). -/
theorem State.sourceField_write_setting {s : State} {u : RequestUnit} {i : Fin 36} {field v : Nat} (hfield : field < 2)
    (h : s.requests.write i field v = some u) :
    (s.setRequests u).sourceField i field = v ∧
      ∀ (j : Fin 36) (g : Nat), j ≠ i ∨ g ≠ field → (s.setRequests u).sourceField j g = s.sourceField j g := by
  interval_cases field <;> obtain ⟨x, hx, rfl⟩ := Option.map_eq_some_iff.mp h
  · obtain ⟨henable, hlevel, hothers⟩ := State.sourceField_of_setting (s := s) (u := s.requests.writeEnable i x) (i := i)
      (setting := { s.requests.settings[i] with enable := x }) (by simp [RequestUnit.writeEnable])
      (by simp [RequestUnit.writeEnable]) (by simp [RequestUnit.writeEnable])
    refine ⟨henable.trans (choose_bool_codec.code_eq hx), fun j g hne => ?_⟩
    by_cases hother : j ≠ i ∨ 2 ≤ g
    · exact hothers j g hother
    · obtain ⟨rfl, rfl⟩ : j = i ∧ g = 1 := by omega
      exact hlevel
  · obtain ⟨henable, hlevel, hothers⟩ := State.sourceField_of_setting (s := s) (u := s.requests.writeLevel i x) (i := i)
      (setting := { s.requests.settings[i] with level := x }) (by simp [RequestUnit.writeLevel])
      (by simp [RequestUnit.writeLevel]) (by simp [RequestUnit.writeLevel])
    refine ⟨hlevel.trans ((indexBelow_codec 3).code_eq hx), fun j g hne => ?_⟩
    by_cases hother : j ≠ i ∨ 2 ≤ g
    · exact hothers j g hother
    · obtain ⟨rfl, rfl⟩ : j = i ∧ g = 0 := by omega
      exact henable

/-- After a write of the kind of source 32 or 34, the sources whose kind is written (R97). -/
theorem State.sourceField_write_kind {s : State} {u : RequestUnit} {i : Fin 36} {v : Nat} (hi : i = 32 ∨ i = 34)
    (h : s.requests.write i 2 v = some u) :
    (s.setRequests u).sourceField i 2 = v ∧
      ∀ (j : Fin 36) (g : Nat), j ≠ i ∨ g ≠ 2 → (s.setRequests u).sourceField j g = s.sourceField j g := by
  obtain ⟨x, hx, rfl⟩ := Option.map_eq_some_iff.mp h
  have hkind := kindOfCode_codec.code_eq hx
  refine ⟨?_, fun j g hne => ?_⟩
  · rcases hi with rfl | rfl <;> exact hkind
  · match g with
    | 0 | 1 => rcases hi with rfl | rfl <;> rfl
    | 2 =>
      have hj : j ≠ i := by simpa using hne
      rw [sourceField, sourceField, State.sourceKind_setRequests] <;> rcases hi with rfl | rfl <;> simp [hj]
    | g + 3 => rfl

/-- After a write to a field that the SOURCE table writes, the field reads the value and every other one reads as before (R97). -/
theorem State.sourceField_write {s : State} {u : RequestUnit} {i : Fin 36} {field v : Nat}
    (hwrites : TableName.source.writes i field = true) (h : s.requests.write i field v = some u) :
    (s.setRequests u).sourceField i field = v ∧
      ∀ (j : Fin 36) (g : Nat), j ≠ i ∨ g ≠ field → (s.setRequests u).sourceField j g = s.sourceField j g := by
  match field with
  | 0 | 1 => exact State.sourceField_write_setting (by decide) h
  | 2 =>
    have hi : i = 32 ∨ i = 34 := by
      simp only [TableName.writes, Bool.and_eq_true, bne_iff_ne, Bool.or_eq_true, decide_eq_true_eq] at hwrites
      omega
    exact State.sourceField_write_kind hi h
  | n + 3 => cases h

/-- Settles O60: the ranges of each record's fields, the reading back of each record, and of the three tables. -/
theorem writeRanges : Obligations.WriteRanges := by
  refine ⟨fun v => ⟨fun r => r.write_ranges v, fun r => r.write_ranges v, fun c => c.write_ranges v, fun h => h.write_ranges v,
    fun e => e.write_ranges v, fun u i => u.write_ranges i v, fun s => ⟨?_, ?_⟩⟩, fun field v => ⟨fun r r' => TrackRecord.field_write,
    fun r r' => LaneRecord.field_write, fun h h' => Header.field_write, fun c c' hw => ?_, fun e e' => EventEntry.field_write⟩,
    fun s t v => ⟨fun hw => ?_, fun hw => ?_, fun i field hwrites hw => ?_⟩⟩
  · exact ((indexBelow_codec 3).isSome_map_iff _ v).trans (and_iff_right (Nat.zero_le v))
  · exact ((within_codec 0 255).isSome_map_iff _ v).trans (and_iff_right (Nat.zero_le v))
  · obtain ⟨hread, hothers⟩ := CellConfig.field_write hw
    exact ⟨hread, hothers, CellConfig.field_write_table hw⟩
  · obtain ⟨x, hx, rfl⟩ := Option.map_eq_some_iff.mp hw
    rw [State.fieldValue_mask, State.setRequests_requests, RequestUnit.writeMask_mask]
    exact (indexBelow_codec 3).code_eq hx
  · obtain ⟨x, hx, rfl⟩ := Option.map_eq_some_iff.mp hw
    obtain rfl : x = v := (within_codec 0 255).code_eq hx
    obtain ⟨-, hmax⟩ := ((within_codec 0 255).isSome_iff x).mp (by rw [hx]; rfl)
    rw [State.fieldValue_gate]
    exact wordOf_levelsOf (n := 8) (by omega)
  · rw [State.writeField_source] at hw
    obtain ⟨u, hu, rfl⟩ := Option.map_eq_some_iff.mp hw
    simp only [State.fieldValue_source]
    exact State.sourceField_write hwrites hu

end Sys2Proof.Machine
end

section
/-! SUPPORT. The lane map: the history after a step, after a fill and after any number of steps, and the output it gives (R49 to R53). -/

namespace Sys2Proof.Machine

/-! ### The history (R49, R50) -/

/-- Entry 0 is the value just recorded, and every other entry the one before it (R50). -/
theorem recordValue_getElem (history : Vector Bool 16) (v : Bool) (k : Fin 16) :
    (recordValue history v)[k] = if _h : k.val = 0 then v else history[k.val - 1] :=
  getElem_tabulate _ _ _

/-- After a fill and any recorded values, newest last, entry `k` is the value recorded `k` steps ago, or the fill value (R52). -/
theorem foldl_recordValue_getElem (recorded : List Bool) (fill : Bool) (k : Nat) (hk : k < 16) :
    (recorded.foldl recordValue (Vector.replicate 16 fill))[k] = recorded.reverse.getD k fill := by
  induction recorded using List.reverseRecOn generalizing k with
  | nil => simp
  | append_singleton earlier v ih =>
    rw [List.foldl_concat, List.reverse_concat]
    refine (recordValue_getElem _ v ⟨k, hk⟩).trans ?_
    cases k with
    | zero => rfl
    | succ k => exact ih k (by omega)

/-! ### All 32 lanes -/

theorem recordLanes_getElem (records : Vector LaneRecord 32) (lanes : Vector LaneRun 32) (tracks : Vector TrackRun 24) (step : Nat)
    (i : Fin 32) : (recordLanes records lanes tracks step)[i] = (records[i]).recorded (lanes[i]).history tracks step :=
  getElem_tabulate _ _ _

theorem fillLanes_getElem (records : Vector LaneRecord 32) (tracks : Vector TrackRun 24) (step : Nat) (i : Fin 32) :
    (fillLanes records tracks step)[i] = (records[i]).filled tracks step :=
  getElem_tabulate _ _ _

/-! ### The pins (R55) -/

theorem State.lanePin_eq_true {s : State} {lane : Fin 32} :
    s.lanePin lane = true ↔ s.seq.runState ≠ .cold ∧ (s.lanes[lane]).output = true := by
  simp [lanePin]

/-- Settles O23: the source by its kind, the two ways a history is written, the pins, and the history after any number of steps. -/
theorem laneShowsRetardedSource : Obligations.LaneShowsRetardedSource := by
  refine ⟨fun source tracks step => ⟨?_, ?_, ?_⟩, fun records lanes tracks step i => ?_, fun s lane => State.lanePin_eq_true,
    fun r fill recorded => ?_⟩
  · rintro t rfl; rfl
  · rintro rfl; exact beq_iff_eq
  · rintro rfl; rfl
  · dsimp only
    rw [recordLanes_getElem, fillLanes_getElem]
    obtain ⟨hhistory, houtput⟩ := (records[i]).filled_spec tracks step
    exact ⟨recordValue_getElem _ _, rfl, hhistory, houtput⟩
  · exact congrArg (· ^^ r.invert) (foldl_recordValue_getElem recorded fill r.retard r.retard.isLt)

end Sys2Proof.Machine
end

section
/-! SUPPORT. The laws of the lanes and of the cells on one lane, one cell and one configuration (R49, R58, R70). -/

namespace Sys2Proof.Machine

/-! ### One lane -/

/-- The output of a lane is what its record makes of its history (R49). -/
def LaneRun.Shows (l : LaneRun) (r : LaneRecord) : Prop := l.output = r.outputOf l.history

theorem State.laneLaw_iff {s : State} : s.LaneLaw ↔ ∀ i : Fin 32, (s.lanes[i]).Shows s.plan.live.lanes[i] := Iff.rfl

theorem LaneRecord.recorded_shows (r : LaneRecord) (history : Vector Bool 16) (tracks : Vector TrackRun 24) (step : Nat) :
    (r.recorded history tracks step).Shows r := rfl

theorem LaneRecord.filled_shows (r : LaneRecord) (tracks : Vector TrackRun 24) (step : Nat) : (r.filled tracks step).Shows r := rfl

/-! ### One cell -/

/-- A configuration whose length is in its range (R58). -/
def CellConfig.Ranged (c : CellConfig) : Prop := 1 ≤ c.length ∧ c.length ≤ 4095

/-- A restarted cell fits its configuration (R72). -/
theorem CellConfig.Ranged.restarted_fits {c : CellConfig} (h : c.Ranged) (read : Fin 64 → Bool) : (c.restarted read).Fits c := by
  obtain ⟨hpositive, -⟩ := h
  exact ⟨Nat.zero_le _, fun _ => hpositive⟩

/-- One step keeps a cell in the law of its mode (R64 to R70): FILTER, STRETCH and COUNT raise the timer only after a test against N,
SETTLE and RATE start it at N and let it fall, and COUNT alone can keep it, which needs the law of the step before. -/
theorem CellRun.Fits.stepped {t : CellRun} {c : CellConfig} (h : t.Fits c) (hc : c.Ranged) (read : Fin 64 → Bool) :
    (t.stepped c read).Fits c := by
  obtain ⟨hle, hlt⟩ := h
  obtain ⟨hpositive, -⟩ := hc
  simp only [CellRun.Fits, CellRun.stepped, CellConfig.timed]
  cases hmode : c.mode
  case plain => simp
  case count =>
    have := hlt (.inr hmode)
    dsimp only
    (repeat' split) <;> simp <;> omega
  case filter | stretch | settle | rate =>
    dsimp only
    (repeat' split) <;> simp <;> omega

/-- A write leaves a configuration's length or gives it one in its range (R58). -/
theorem CellConfig.length_of_write {c c' : CellConfig} {field v : Nat} (h : c.write field v = some c') :
    c'.length = c.length ∨ c'.Ranged := by
  obtain ⟨hread, hothers⟩ := CellConfig.field_write h
  by_cases hfield : field = 6
  · subst hfield
    have haccepted : (c.write 6 v).isSome = true := by rw [h]; rfl
    have hlength : c'.length = v := hread
    rw [CellConfig.Ranged, hlength]
    exact .inr ((c.write_ranges v 6 1 4095 rfl).mp haccepted)
  · exact .inl (hothers 6 (Ne.symm hfield) (by omega) (by omega))

/-! ### All 16 cells -/

theorem stepCells_getElem (configs : Vector CellConfig 16) (cells : Vector CellRun 16) (tracks : Vector TrackRun 24)
    (flags : Vector Bool 8) (watch : BitVec 16) (i : Fin 16) :
    (stepCells configs cells tracks flags watch)[i] =
      (cells[i]).stepped configs[i]
        (selected (fun k => watch.getLsbD k) (fun t => (tracks[t]).level) (fun c => (cells[c]).output) fun g => flags[g]) :=
  getElem_tabulate _ _ _

theorem restartCells_all (configs : Vector CellConfig 16) (cells : Vector CellRun 16) (tracks : Vector TrackRun 24)
    (flags : Vector Bool 8) (i : Fin 16) :
    (restartCells configs cells (fun _ => true) tracks flags)[i] =
      (configs[i]).restarted (restartInputs configs cells (fun _ => true) tracks flags) :=
  getElem_tabulate _ _ _

end Sys2Proof.Machine
end

section
/-! SUPPORT. What an event can do to the lanes, the cells and the banks they read, said once: they are staged, activated, restarted or
stepped (R19, R22, R50, R53, R62, R72, R150, R157), operation by operation. -/

namespace Sys2Proof.Machine

/-- A staged length is the one before, a live one, or one written in its range (R58, R150, R169). -/
def Plan.LengthFrom (p staged live : Plan) (i : Fin 16) : Prop :=
  (p.cells[i]).length = (staged.cells[i]).length ∨ (p.cells[i]).length = (live.cells[i]).length ∨ (p.cells[i]).Ranged

/-- A staged configuration replaced by one with its length or with a length in its range. -/
theorem Plan.lengthFrom_set_cell (p live : Plan) {index : Nat} (hindex : index < 16) {c : CellConfig}
    (h : c.length = (p.cells[index]).length ∨ c.Ranged) (i : Fin 16) :
    ({ p with cells := p.cells.set index c } : Plan).LengthFrom p live i := by
  unfold LengthFrom
  by_cases hi : index = i.val
  · subst hi
    simpa using h.imp_right .inr
  · simp [hi]

/-- The lanes, the cells and the banks of `t` come from those of `s` by the rules that move them. -/
inductive State.Moves : State → State → Prop
  /-- At most the staged bank is written. -/
  | stage {s t : State} (lanes : t.lanes = s.lanes) (cells : t.cells = s.cells) (live : t.plan.live = s.plan.live)
      (staged : ∀ i, t.plan.staged.LengthFrom s.plan.staged s.plan.live i) : s.Moves t
  /-- An activation is applied at its step or late (R157). -/
  | activate (s : State) (a : Activation) : s.Moves (s.activate a)
  /-- Every lane is filled and every cell restarted from the live bank, which an origin may have copied from the staged one
  (R19, R22, R160). -/
  | restart {s t : State} {step : Nat} (lanes : t.lanes = fillLanes t.plan.live.lanes t.tracks step)
      (cells : t.cells = restartCells t.plan.live.cells s.cells (fun _ => true) t.tracks (Vector.replicate 8 false))
      (live : t.plan.live = s.plan.live ∨ t.plan.live = s.plan.staged.clamped) (staged : t.plan.staged = s.plan.staged) : s.Moves t
  /-- The per-step blocks compute a step (R5). -/
  | step (s : State) (watch : BitVec 16) (step : Nat) : s.Moves (s.computeStep watch step)
  | trans {s t u : State} : s.Moves t → t.Moves u → s.Moves u

namespace State

variable {s t u : State}

/-- A write to the staged bank that leaves its configurations. -/
theorem Moves.of_staged_cells (hlanes : t.lanes = s.lanes) (hcells : t.cells = s.cells) (hlive : t.plan.live = s.plan.live)
    (hstaged : t.plan.staged.cells = s.plan.staged.cells) : s.Moves t :=
  .stage hlanes hcells hlive fun _ => .inl (by rw [hstaged])

/-- An event that leaves the lanes, the cells and both banks. -/
theorem Moves.of_frame (hlanes : t.lanes = s.lanes) (hcells : t.cells = s.cells) (hlive : t.plan.live = s.plan.live)
    (hstaged : t.plan.staged = s.plan.staged) : s.Moves t :=
  .of_staged_cells hlanes hcells hlive (by rw [hstaged])

/-- An event that leaves the lanes, the cells and the plan store. -/
theorem Moves.of_plan_eq (hlanes : t.lanes = s.lanes) (hcells : t.cells = s.cells) (hplan : t.plan = s.plan) : s.Moves t :=
  .of_frame hlanes hcells (by rw [hplan]) (by rw [hplan])

theorem Moves.refl (s : State) : s.Moves s := .of_plan_eq rfl rfl rfl

theorem Moves.ite {p : Prop} [Decidable p] (ht : p → s.Moves t) (hu : ¬ p → s.Moves u) : s.Moves (if p then t else u) := by
  split
  · exact ht ‹_›
  · exact hu ‹_›

/-! ### The two laws -/

/-- The lanes after a step (R50). -/
theorem computeStep_lanes (s : State) (watch : BitVec 16) (step : Nat) :
    (s.computeStep watch step).lanes = recordLanes s.plan.live.lanes s.lanes (s.computeStep watch step).tracks step := by
  simp [computeStep]

/-- The cells after a step (R62). -/
theorem computeStep_cells (s : State) (watch : BitVec 16) (step : Nat) :
    (s.computeStep watch step).cells = stepCells s.plan.live.cells s.cells s.tracks s.events.gates watch := by
  simp [computeStep]

/-- An event keeps the output of every lane at entry r of its history (R49): a lane is filled or recorded under its live record, or the
lane and its record stay. -/
theorem Moves.laneLaw (h : s.Moves t) : s.LaneLaw → t.LaneLaw := by
  simp only [laneLaw_iff]
  induction h with
  | stage hlanes _ hlive _ =>
    intro hs
    rwa [hlanes, hlive]
  | activate s a =>
    intro hs i
    rw [activate_lanes]
    by_cases hsame : s.plan.live.lanes[i] = (s.activate a).plan.live.lanes[i]
    · rw [activateLanes_same hsame, ← hsame]
      exact hs i
    · rw [activateLanes_changed hsame]
      exact LaneRecord.filled_shows _ _ _
  | restart hlanes =>
    intro _ i
    rw [hlanes, fillLanes_getElem]
    exact LaneRecord.filled_shows _ _ _
  | step s watch n =>
    intro _ i
    have hplan : (s.computeStep watch n).plan = s.plan := by simp
    rw [computeStep_lanes, recordLanes_getElem, hplan]
    exact LaneRecord.recorded_shows _ _ _ _
  | trans _ _ ihs iht => exact iht ∘ ihs

theorem CellLaw.staged (h : s.CellLaw) (i : Fin 16) : (s.plan.staged.cells[i]).Ranged := h.1 i

theorem CellLaw.live (h : s.CellLaw) (i : Fin 16) : (s.plan.live.cells[i]).Ranged := h.2.1 i

theorem CellLaw.fits (h : s.CellLaw) (i : Fin 16) : (s.cells[i]).Fits s.plan.live.cells[i] := h.2.2 i

/-- An event keeps every cell's timer in the law of its mode (R70): a cell is restarted or stepped under its live configuration, or the
cell and its configuration stay. -/
theorem Moves.cellLaw (h : s.Moves t) : s.CellLaw → t.CellLaw := by
  induction h with
  | @stage s t _ hcells hlive hstaged =>
    intro hs
    refine ⟨fun i => ?_, ?_, ?_⟩
    · rcases hstaged i with hsame | hcopied | hwritten
      · rw [hsame]; exact hs.staged i
      · rw [hcopied]; exact hs.live i
      · exact hwritten
    · rw [hlive]; exact hs.live
    · rw [hcells, hlive]; exact hs.fits
  | activate s a =>
    intro hs
    have hplan := s.activate_plan a
    have hlive : (s.activate a).plan.live.cells = s.plan.staged.cells := by rw [hplan]; rfl
    refine ⟨by rw [hplan]; exact hs.staged, by rw [hlive]; exact hs.staged, fun i => ?_⟩
    rw [activate_cells]
    by_cases hsame : s.plan.live.cells[i] = (s.activate a).plan.live.cells[i]
    · rw [activateCells_same hsame, ← hsame]
      exact hs.fits i
    · rw [activateCells_changed hsame]
      refine CellConfig.Ranged.restarted_fits ?_ _
      rw [hlive]; exact hs.staged i
  | @restart s t n _ hcells hlive hstaged =>
    intro hs
    have hranged (i : Fin 16) : (t.plan.live.cells[i]).Ranged := by
      rcases hlive with hkept | hcopied
      · rw [hkept]; exact hs.live i
      · rw [hcopied]; exact hs.staged i
    refine ⟨by rw [hstaged]; exact hs.staged, hranged, fun i => ?_⟩
    rw [hcells, restartCells_all]
    exact (hranged i).restarted_fits _
  | step s watch n =>
    intro hs
    have hplan : (s.computeStep watch n).plan = s.plan := by simp
    rw [CellLaw, hplan, computeStep_cells]
    refine ⟨hs.staged, hs.live, fun i => ?_⟩
    rw [stepCells_getElem]
    exact (hs.fits i).stepped (hs.live i) _
  | trans _ _ ihs iht => exact iht ∘ ihs

end State
end Sys2Proof.Machine
end

section
/-! SUPPORT. What each operation of the part does to the lanes, the cells and the banks, up to every command and every tick. -/

namespace Sys2Proof.Machine

namespace State

variable (s : State)

/-! ### Activations, origins and resets (R19, R22, R157, R160) -/

theorem performOrigin_moves (number : Nat) : s.Moves (s.performOrigin number) := by
  obtain ⟨-, hnone, hsome, -, hlanes, hcells, -⟩ := s.performOrigin_spec number
  cases hp : s.plan.pendingActivation with
  | none => exact .restart hlanes hcells (.inl (by rw [hnone hp])) (by rw [hnone hp])
  | some a => exact .restart hlanes hcells (.inr (by rw [hsome a hp])) (by rw [hsome a hp])

theorem resetBlocks_moves : s.Moves s.resetBlocks :=
  .restart rfl rfl (.inl rfl) rfl

theorem activateAtOrigin_moves (a : Activation) : s.Moves (s.activateAtOrigin a) := by
  have hplan : (s.activateAtOrigin a).plan = s.plan.applied a.stage s.plan.staged.recordClamps := by simp [activateAtOrigin]
  refine .restart (step := s.seq.step) ?_ ?_ (.inr ?_) ?_
  · simp [activateAtOrigin, restartBlocks]
  · simp [activateAtOrigin, restartBlocks]
  · rw [hplan]; rfl
  · rw [hplan]; rfl

theorem activateLate_moves (a : Activation) : s.Moves (s.activateLate a) :=
  (Moves.activate s a).trans (.of_frame (by simp [activateLate]) (by simp [activateLate]) (by simp [activateLate])
    (by simp [activateLate]))

theorem readActivation_moves (f : BeatFields) (origin : Bool) : s.Moves (s.readActivation f origin) := by
  have weighed (t : State) (a : Activation) : t.Moves (t.weighActivation a origin) :=
    .ite (fun _ => t.activateAtOrigin_moves a) fun _ => .ite (fun _ => t.activateLate_moves a) fun _ => .refl t
  have locked (a : Activation) : s.Moves (s.setPlan { s.plan with pendingActivation := some a }) := .of_frame rfl rfl rfl rfl
  exact .ite (fun _ => (locked _).trans (weighed _ _)) fun _ => .refl s

theorem expireOverdue_moves : s.Moves s.expireOverdue := .of_plan_eq (by simp) (by simp) (by simp)

theorem announceOrigin_moves : s.Moves s.announceOrigin := by
  have told : s.Moves s.announced := (s.performOrigin_moves (nextOrigin s.root.announcedOrigin)).trans <| .of_frame
    (by simp [announced]) (by simp [announced]) (by simp [announced, PlanStore.announceAtOrigin])
    (by simp [announced, PlanStore.announceAtOrigin])
  exact .ite (fun _ => told.trans (expireOverdue_moves _)) fun _ => told

theorem resetPart_moves : s.Moves s.resetPart := by
  have hcleared : s.Moves (s.setRoot s.root.cleared) := .of_frame rfl rfl rfl rfl
  unfold resetPart
  split
  · exact s.resetBlocks_moves
  · exact .ite (fun _ => hcleared.trans (announceOrigin_moves _)) fun _ => hcleared.trans (resetBlocks_moves _)

/-! ### Steps and strobes (R4, R5, R6, R15) -/

theorem applyDue_moves (step : Nat) : s.Moves (s.applyDue step) := by
  unfold applyDue
  split
  · exact .refl s
  · exact .ite (fun _ => .activate s _) fun _ => .refl s

theorem takeStep_moves (watch : BitVec 16) : s.Moves (s.takeStep watch) := by
  have computed := (s.applyDue_moves (s.seq.step + 1)).trans (.step _ watch (s.seq.step + 1))
  exact .ite (fun _ => computed.trans (expireOverdue_moves _)) fun _ => computed

theorem actOnStrobe_moves (watch : BitVec 16) : s.Moves (s.actOnStrobe watch) := by
  have ended (t : State) : t.Moves t.endHalting := .of_plan_eq (by simp) (by simp) (by simp)
  unfold actOnStrobe
  split
  case h_1 => exact .ite (fun _ => s.takeStep_moves watch) fun _ => .of_plan_eq (by simp) (by simp) (by simp)
  case h_2 => exact .ite (fun _ => (s.takeStep_moves watch).trans (ended _)) fun _ => .refl s
  all_goals exact .refl s

theorem strobe_moves (watch : BitVec 16) (order : StrobeOrder) : s.Moves (s.strobe watch order) := by
  have struck : s.Moves s.struck := .of_frame rfl rfl rfl rfl
  have emitted (t : State) (spacing : Nat) : t.Moves (t.cadence spacing) := .of_plan_eq (by simp) (by simp) (by simp)
  have loaded (t : State) : t.Moves t.paceLoaded := .of_frame rfl rfl rfl rfl
  cases order
  case stepFirst => exact ((struck.trans (actOnStrobe_moves _ watch)).trans (emitted _ _)).trans (loaded _)
  case emissionFirst => exact ((struck.trans (emitted _ _)).trans (actOnStrobe_moves _ watch)).trans (loaded _)

/-! ### Beat frames (R10, R119, R134) -/

/-- The placement of a request reaches neither lanes nor cells nor the plan (R103). -/
theorem placeRequest_moves (bytes : List Byte) : s.Moves (s.placeRequest bytes).1 := by
  unfold placeRequest
  (repeat' split) <;> exact .of_frame rfl rfl rfl rfl

theorem readBeatFields_moves (f : BeatFields) : s.Moves (s.readBeatFields f) := by
  have restarted : s.Moves s.watchdogRestarted := .of_frame rfl rfl rfl rfl
  have synced : s.Moves (s.originRead f) :=
    .ite (fun _ => restarted.trans (performOrigin_moves _ _)) fun _ => restarted
  exact synced.trans (.of_frame rfl rfl rfl rfl)

theorem passBeat_moves (bytes : List Byte) : s.Moves (s.passBeat bytes) := by
  have read := (s.readBeatFields_moves (readBeat bytes)).trans
    (readActivation_moves _ (readBeat bytes) (s.seq.mustOrigin (readBeat bytes)))
  have placed := read.trans (placeRequest_moves _ bytes)
  exact placed.trans (.of_frame rfl rfl rfl rfl)

theorem takeBeat_moves (bytes : List Byte) : s.Moves (s.takeBeat bytes) := by
  obtain ⟨hlive, hstaged⟩ := s.takeBeat_banks bytes
  exact .of_frame (by simp) (by simp) hlive hstaged

/-! ### Service commands (R150, R166 to R169) -/

theorem writeField_moves {table : TableName} {index field v : Nat} {t : State} (hw : s.writeField table index field v = some t) :
    s.Moves t := by
  obtain ⟨-, -, -, -, -, -, -, hlanes, hcells⟩ := s.writeField_frame t table index field v hw
  cases table <;> simp only [writeField] at hw
  case cellStaged =>
    split at hw
    · obtain ⟨c, hc, rfl⟩ := Option.map_eq_some_iff.mp hw
      exact .stage hlanes hcells rfl (Plan.lengthFrom_set_cell _ _ _ (CellConfig.length_of_write hc))
    · cases hw
  case trackStaged | laneStaged | event | source =>
    split at hw
    · obtain ⟨x, -, rfl⟩ := Option.map_eq_some_iff.mp hw
      exact .of_staged_cells hlanes hcells rfl rfl
    · cases hw
  case headerStaged | gate | mask =>
    obtain ⟨x, -, rfl⟩ := Option.map_eq_some_iff.mp hw
    exact .of_staged_cells hlanes hcells rfl rfl
  all_goals cases hw

theorem writeAt_moves (table : TableName) (index field v : Nat) : s.Moves (s.writeAt table index field v).state := by
  unfold writeAt
  (repeat' split)
  case h_2 hw => exact s.writeField_moves hw
  all_goals exact .refl s

/-- The bits written are gate flags or a staged truth table, which has no part in a length (R168). -/
theorem setBitLevels_moves (table : TableName) (index : Nat) (levels : Vector Bool 8) : s.Moves (s.setBitLevels table index levels) := by
  cases table
  case cellStaged =>
    unfold setBitLevels
    dsimp only
    split
    · exact .stage rfl rfl rfl (Plan.lengthFrom_set_cell _ _ _ (.inl rfl))
    · exact .refl s
  all_goals exact .of_frame rfl rfl rfl rfl

theorem bitsAt_moves (table : TableName) (index field v : Nat) (change : Vector Bool 8 → Nat → Vector Bool 8)
    (reply : Vector Bool 8 → Nat) : s.Moves (s.bitsAt table index field v change reply).state := by
  unfold bitsAt
  dsimp only
  (repeat' split) <;> first | exact s.setBitLevels_moves _ _ _ | exact .refl s

theorem onTable_moves (f : ServiceFrame) {act : TableName → Answer} (hact : ∀ table, s.Moves (act table).state) :
    s.Moves (s.onTable f act).state := by
  unfold onTable
  split
  · exact .refl s
  · exact hact _

theorem atCursor_moves (f : ServiceFrame) {act : TableName → Nat → Answer} (hact : ∀ table n, s.Moves (act table n).state) :
    s.Moves (s.atCursor f act).state := by
  unfold atCursor Answer.advancing
  dsimp only
  (repeat' split)
  · exact .refl s
  · exact (hact _ _).trans (.of_frame rfl rfl rfl rfl)
  · exact hact _ _

/-- COPY_LIVE stages the live configurations (R169). -/
theorem serveCopyLive_moves : s.Moves s.serveCopyLive.state := by
  unfold serveCopyLive
  split
  · exact .refl s
  · exact .stage rfl rfl rfl fun _ => .inr (.inl rfl)

/-- A run started sends a beat, which reaches neither lanes nor cells nor the plan (R145). -/
theorem tryRun_moves (target : Option Nat) (reply : Nat) : s.Moves (s.tryRun target reply).state := by
  unfold tryRun
  split
  · exact .refl s
  · exact .of_plan_eq (by simp [accept]) (by simp [accept]) (by simp [accept])

theorem perform_moves (c : CommandName) (f : ServiceFrame) : s.Moves (s.perform c f).state := by
  cases c <;> simp only [perform]
  case read => exact s.onTable_moves f fun _ => by rw [readAt_state]; exact .refl s
  case write => exact s.onTable_moves f fun _ => s.writeAt_moves _ _ _ _
  case cursor => exact s.onTable_moves f fun _ => by split <;> exact .of_frame rfl rfl rfl rfl
  case readNext => exact s.atCursor_moves f fun _ _ => by rw [readAt_state]; exact .refl s
  case writeNext => exact s.atCursor_moves f fun _ _ => s.writeAt_moves _ _ _ _
  case setBits | clearBits | testSet => exact s.onTable_moves f fun _ => s.bitsAt_moves _ _ _ _ _ _
  case copyLive => exact s.serveCopyLive_moves
  case resetPart => exact s.resetPart_moves
  case origin => unfold serveOrigin; (repeat' split) <;> first | exact .refl s | exact s.announceOrigin_moves
  case run => unfold serveRun; split <;> first | exact s.tryRun_moves _ _ | exact .refl s
  case runFor =>
    unfold serveRunFor
    dsimp only
    (repeat' split) <;> first | exact s.tryRun_moves _ _ | exact .of_frame rfl rfl rfl rfl
  case pause =>
    unfold servePause
    split
    case h_1 => exact .of_plan_eq (by simp [accept]) (by simp [accept]) (by simp [accept])
    all_goals exact .refl s
  case takeNotice => unfold serveTakeNotice; (repeat' split) <;> exact .of_frame rfl rfl rfl rfl
  case clearBreak => unfold serveClearBreak; (repeat' split) <;> exact .of_frame rfl rfl rfl rfl
  case swap => unfold serveSwap; (repeat' split) <;> exact .of_frame rfl rfl rfl rfl
  case enumerate => unfold serveEnumerate; (repeat' split) <;> exact .of_frame rfl rfl rfl rfl

theorem takeService_moves (code : BitVec 8) (f : ServiceFrame) : s.Moves (s.takeService code f) := by
  have answered : s.Moves (s.answer code f).state := by
    unfold answer
    (repeat' split)
    case isFalse.isFalse => exact s.perform_moves _ f
    all_goals exact .refl s
  exact .ite (fun _ => answered.trans (.of_frame rfl rfl rfl rfl)) fun _ => .of_frame rfl rfl rfl rfl

/-! ### Arrivals (R110, R113, R176) -/

theorem takeEnum_moves (f : EnumFrame) : s.Moves (s.takeEnum f) := .of_plan_eq (by simp) (by simp) (by simp)

theorem takeFrame_moves (bytes : List Byte) : s.Moves (s.takeFrame bytes) := by
  have beat (frame : List Byte) : s.Moves (s.dispatchBeat frame) := by
    unfold dispatchBeat
    split
    · exact s.passBeat_moves frame
    · exact s.takeBeat_moves frame
  refine .ite (fun _ => ?_) fun _ => .of_frame rfl rfl rfl rfl
  unfold dispatch
  split
  case h_1 => exact .of_frame rfl rfl rfl rfl
  case h_2 => exact .ite (fun _ => .of_frame rfl rfl rfl rfl) fun _ => beat _
  case h_3 => exact s.takeService_moves _ _
  case h_4 => exact s.takeEnum_moves _

theorem setReception_moves (r : Reception) : s.Moves (s.setReception r) := .of_frame rfl rfl rfl rfl

theorem onArrival_moves {act : State → State} (hact : ∀ t : State, t.Moves (act t)) : s.Moves (s.onArrival act) :=
  .ite (fun _ => (s.setReception_moves _).trans (hact _)) fun _ => s.setReception_moves _

theorem frameCompletedEarly_moves (bytes : List Byte) : s.Moves (s.frameCompletedEarly bytes) :=
  .ite (fun _ => (s.setReception_moves _).trans (takeFrame_moves _ bytes)) fun _ => .refl s

/-! ### The reference, the watchdog and time (R7, R17) -/

theorem loseReference_moves : s.Moves s.loseReference := by
  unfold loseReference
  dsimp only
  split <;> exact .of_plan_eq (by simp) (by simp) (by simp)

theorem expireWatchdog_moves : s.Moves s.expireWatchdog := by
  unfold expireWatchdog
  dsimp only
  split <;> exact .of_plan_eq (by simp) (by simp) (by simp)

theorem tick_moves : s.Moves s.tick := by
  unfold tick referencePeriod microsecond
  dsimp only
  (repeat' split) <;> exact .of_frame rfl rfl rfl rfl

end State

/-! ### Every command -/

/-- A command is a hardware reset or moves the lanes, the cells and the banks by the rules. -/
theorem Effect.moves {s t : State} {c : Instr} (h : Effect s c t) :
    (∃ cause level, t = s.hardwareReset cause level) ∨ s.Moves t := by
  cases h
  case reset cause level _ => exact .inl ⟨cause, level, rfl⟩
  all_goals refine .inr ?_
  case loss => exact s.loseReference_moves
  case watchdog => exact s.expireWatchdog_moves
  case strobe watch order _ => exact s.strobe_moves watch order
  case enum f _ => exact s.onArrival_moves fun t => t.takeEnum_moves f
  case service code f _ => exact s.onArrival_moves fun t => t.takeService_moves code f
  case arrival bytes _ => exact s.onArrival_moves fun t => t.takeFrame_moves bytes
  case early bytes _ => exact s.frameCompletedEarly_moves bytes
  case cut bytes _ => exact (s.frameCompletedEarly_moves bytes).trans (.of_frame rfl rfl rfl rfl)
  case deferred | returnTimeout => exact .of_plan_eq (by simp) (by simp) (by simp)
  all_goals exact .of_frame rfl rfl rfl rfl

/-- A hardware reset leaves lanes, cells and banks as they are after power-on (R56, R76, R161). -/
theorem State.reset_moves_hardwareReset (s : State) (cause : ResetCause) (level : Bool) :
    State.reset.Moves (s.hardwareReset cause level) := .of_frame rfl rfl rfl rfl

/-- Settles O11: a tick and every command move lanes and cells by the rules, or reset them; `Moves.laneLaw` and `Moves.cellLaw`. -/
theorem stepKeepsLaneAndCellLaw : Obligations.StepKeepsLaneAndCellLaw := by
  intro s t h
  unfold step at h
  split at h
  · cases h
    exact ⟨s.tick_moves.laneLaw, s.tick_moves.cellLaw⟩
  case h_2 c rest _ =>
    rcases (effect_of_exec h).moves with ⟨cause, level, rfl⟩ | hmoves
    · have hreset := (s.setPending rest).reset_moves_hardwareReset cause level
      exact ⟨fun _ => hreset.laneLaw State.reset_laneLaw, fun _ => hreset.cellLaw State.reset_cellLaw⟩
    · exact ⟨hmoves.laneLaw (s := s.setPending rest), hmoves.cellLaw (s := s.setPending rest)⟩

end Sys2Proof.Machine
end

section
/-! SUPPORT. One condition cell: what its selectors read, which changes qualify, what a restart sets, and the table of each timer mode
(R60 to R69, R72). -/

namespace Sys2Proof.Machine

/-! ### Inputs and the truth table (R60, R61) -/

section selected

variable (watch : Fin 16 → Bool) (track : Fin 24 → Bool) (cell : Fin 16 → Bool) (gate : Fin 8 → Bool) {n : Fin 64}

theorem selected_watch (h : n.val < 16) : selected watch track cell gate n = watch ⟨n.val, h⟩ := dif_pos h

theorem selected_track {t : Fin 24} (h : n.val = 16 + t.val) : selected watch track cell gate n = track t := by
  have hindex : n.val - 16 = t.val := by omega
  simp only [selected, dif_neg (show ¬ n.val < 16 by omega), dif_pos (show n.val < 40 by omega), hindex]

theorem selected_cell {c : Fin 16} (h : n.val = 40 + c.val) : selected watch track cell gate n = cell c := by
  have hindex : n.val - 40 = c.val := by omega
  simp only [selected, dif_neg (show ¬ n.val < 16 by omega), dif_neg (show ¬ n.val < 40 by omega),
    dif_pos (show n.val < 56 by omega), hindex]

theorem selected_gate {g : Fin 8} (h : n.val = 56 + g.val) : selected watch track cell gate n = gate g := by
  have hindex : n.val - 56 = g.val := by omega
  simp only [selected, dif_neg (show ¬ n.val < 16 by omega), dif_neg (show ¬ n.val < 40 by omega),
    dif_neg (show ¬ n.val < 56 by omega), hindex]

end selected

/-- The truth-table value is the entry at any name of its index (R61). -/
theorem CellConfig.truthValue_eq_getElem (c : CellConfig) (read : Fin 64 → Bool) {k : Fin 8}
    (h : k.val = 4 * (read c.selector2).toNat + 2 * (read c.selector1).toNat + (read c.selector0).toNat) :
    c.truthValue read = c.truth[k] := by
  simp only [truthValue, ← h]
  rfl

/-! ### Changes (R62, R63) -/

theorem CellEdge.qualifies_iff (edge : CellEdge) (old new : Bool) :
    edge.qualifies old new = true ↔
      edge ≠ .fall ∧ old = false ∧ new = true ∨ edge ≠ .rise ∧ old = true ∧ new = false := by
  cases edge
  case rise | fall => simp [qualifies]
  case both => cases old <;> simp [qualifies]

/-- Equal values are no change (R63). -/
@[simp] theorem CellEdge.qualifies_self (edge : CellEdge) (v : Bool) : edge.qualifies v v = false := by
  cases edge <;> simp [qualifies]

theorem Change.between_eq_rise_iff {old new : Bool} : Change.between old new = .rise ↔ old = false ∧ new = true := by
  cases old <;> cases new <;> decide

theorem Change.between_eq_fall_iff {old new : Bool} : Change.between old new = .fall ↔ old = true ∧ new = false := by
  cases old <;> cases new <;> decide

/-! ### Restarts (R72, R73) -/

section restartCells

variable {restarts : Fin 16 → Bool} {i : Fin 16} (configs : Vector CellConfig 16) (cells : Vector CellRun 16)
  (tracks : Vector TrackRun 24) (flags : Vector Bool 8)

theorem restartCells_kept (h : restarts i = false) : (restartCells configs cells restarts tracks flags)[i] = cells[i] := by
  simp [restartCells, h]

/-- A restarted cell, with the inputs as the restart leaves them. -/
theorem restartCells_restarted (h : restarts i = true) :
    let after := restartCells configs cells restarts tracks flags
    after[i] = (configs[i]).restarted
      (selected (fun _ => false) (fun t => (tracks[t]).level) (fun c => (after[c]).output) (fun g => flags[g])) := by
  dsimp only
  rw [← restartInputs_eq]
  simp [restartCells, h]

end restartCells

/-! ### The timer modes (R64 to R69) -/

namespace CellConfig

variable {c : CellConfig} {timer : Nat} {output old new : Bool}

/-- The rows of FILTER (R65). -/
theorem timed_filter (hmode : c.mode = .filter) :
    (new = output → c.timed timer output old new = (0, output)) ∧
      (new ≠ output → timer + 1 < c.length → c.timed timer output old new = (timer + 1, output)) ∧
      (new ≠ output → timer + 1 = c.length → c.timed timer output old new = (0, new)) := by
  simp only [timed, hmode]
  refine ⟨fun hsame => if_pos hsame, fun hdiffers hbelow => ?_, fun hdiffers hreached => ?_⟩
  · rw [if_neg hdiffers, if_pos hbelow]
  · rw [if_neg hdiffers, if_neg (by omega)]

/-- The rows of STRETCH (R66). -/
theorem timed_stretch (hmode : c.mode = .stretch) :
    (output = false → c.edge.qualifies old new = true → c.timed timer output old new = (1, true)) ∧
      (output = false → c.edge.qualifies old new = false → c.timed timer output old new = (0, false)) ∧
      (output = true → timer < c.length → c.timed timer output old new = (timer + 1, true)) ∧
      (output = true → timer = c.length → c.timed timer output old new = (0, false)) := by
  simp only [timed, hmode]
  refine ⟨fun hlow hq => ?_, fun hlow hq => ?_, fun hhigh hbelow => ?_, fun hhigh hreached => ?_⟩
  · simp [hlow, hq]
  · simp [hlow, hq]
  · simp [hhigh, hbelow]
  · simp [hhigh, hreached]

/-- The rows of COUNT (R67). -/
theorem timed_count (hmode : c.mode = .count) :
    (c.edge.qualifies old new = true → timer + 1 < c.length → c.timed timer output old new = (timer + 1, false)) ∧
      (c.edge.qualifies old new = true → timer + 1 = c.length → c.timed timer output old new = (0, true)) ∧
      (c.edge.qualifies old new = false → c.timed timer output old new = (timer, false)) := by
  simp only [timed, hmode]
  refine ⟨fun hq hbelow => ?_, fun hq hreached => ?_, fun hq => ?_⟩
  · simp [hq, hbelow]
  · simp [hq, hreached]
  · simp [hq]

theorem timed_settle_of_qualifies (hmode : c.mode = .settle) (hq : c.edge.qualifies old new = true) :
    c.timed timer output old new = (c.length, false) := by
  simp [timed, hmode, hq]

/-- A step without a change counts down, and the pulse comes from 1 (R68). -/
theorem timed_settle_quiet (hmode : c.mode = .settle) (v : Bool) :
    c.timed timer output v v = (timer - 1, decide (timer = 1)) := by
  simp only [timed, hmode, CellEdge.qualifies_self]
  rcases timer with _ | _ | timer <;> simp

/-- The rows of SETTLE (R68). -/
theorem timed_settle (hmode : c.mode = .settle) :
    (c.edge.qualifies old new = true → c.timed timer output old new = (c.length, false)) ∧
      (c.edge.qualifies old new = false → old ≠ new → c.timed timer output old new = (0, false)) ∧
      (old = new → timer = 0 → c.timed timer output old new = (0, false)) ∧
      (old = new → 1 < timer → c.timed timer output old new = (timer - 1, false)) ∧
      (old = new → timer = 1 → c.timed timer output old new = (0, true)) := by
  refine ⟨timed_settle_of_qualifies hmode, fun hq hchange => ?_, ?_, ?_, ?_⟩
  · simp [timed, hmode, hq, hchange]
  all_goals
    rintro rfl htimer
    rw [timed_settle_quiet hmode]
  · simp [htimer]
  · simp [htimer.ne']
  · simp [htimer]

/-- The rows of RATE (R69). -/
theorem timed_rate (hmode : c.mode = .rate) :
    (c.edge.qualifies old new = true → 0 < timer → c.timed timer output old new = (c.length, true)) ∧
      (c.edge.qualifies old new = true → timer = 0 → c.timed timer output old new = (c.length, false)) ∧
      (c.edge.qualifies old new = false → 1 < timer → c.timed timer output old new = (timer - 1, output)) ∧
      (c.edge.qualifies old new = false → timer = 1 → c.timed timer output old new = (0, false)) ∧
      (c.edge.qualifies old new = false → timer = 0 → c.timed timer output old new = (0, false)) := by
  simp only [timed, hmode]
  refine ⟨fun hq htimer => ?_, fun hq htimer => ?_, fun hq htimer => ?_, fun hq htimer => ?_, fun hq htimer => ?_⟩ <;>
    simp [hq, htimer]

end CellConfig

/-- Settles O24: the selectors and the truth table, the qualifying changes, the step and the restart of the 16 cells, then mode by
mode. -/
theorem cellInputsAndModeTables : Obligations.CellInputsAndModeTables := by
  refine ⟨⟨fun watch track cell gate n => ?_, fun c read _ => c.truthValue_eq_getElem read⟩, CellEdge.qualifies_iff,
    fun configs cells tracks flags watch i => ?_, fun configs cells restarts tracks flags i => ?_,
    fun c timer output old new _ _ => ?_⟩
  · exact ⟨selected_watch _ _ _ _, fun _ => selected_track _ _ _ _, fun _ => selected_cell _ _ _ _,
      fun _ => selected_gate _ _ _ _⟩
  · dsimp only
    rw [stepCells_getElem]
    exact ⟨rfl, rfl, Change.between_eq_rise_iff, Change.between_eq_fall_iff⟩
  · exact ⟨restartCells_kept _ _ _ _, restartCells_restarted _ _ _ _⟩
  · exact ⟨fun hmode => by simp [CellConfig.timed, hmode], CellConfig.timed_filter, CellConfig.timed_stretch,
      CellConfig.timed_count, CellConfig.timed_settle, CellConfig.timed_rate⟩

end Sys2Proof.Machine
end

section
/-! SUPPORT. A cell over many steps: the high run of STRETCH and the countdown of SETTLE (R66, R68). -/

namespace Sys2Proof.Machine

/-- A high run stays high until its timer has counted to N, and the next step ends it, whatever the values (R66). -/
theorem cellOver_stretch_high {c : CellConfig} (hmode : c.mode = .stretch) (values : List Bool) {timer : Nat}
    (htimer : timer ≤ c.length) (hbound : timer + values.length ≤ c.length + 1) (old : Bool) :
    (cellOver c values old (timer, true)).2 = decide (timer + values.length ≤ c.length) := by
  induction values generalizing timer old with
  | nil => simpa [cellOver] using htimer
  | cons new rest ih =>
    obtain ⟨-, -, hcounts, hends⟩ := CellConfig.timed_stretch (timer := timer) (output := true) (old := old) (new := new) hmode
    rw [List.length_cons] at hbound ⊢
    rcases htimer.lt_or_eq with hbelow | hreached
    · rw [cellOver, hcounts rfl hbelow, ih hbelow (by omega)]
      exact decide_eq_decide.mpr (by omega)
    · have hrest : rest = [] := List.eq_nil_of_length_eq_zero (by omega)
      subst hrest
      rw [cellOver, hends rfl hreached]
      simp [cellOver, hreached]

/-- Over steps without a change the output is 1 exactly after the step whose number the timer held (R68). -/
theorem cellOver_settle_quiet {c : CellConfig} (hmode : c.mode = .settle) (v : Bool) (quiet timer : Nat) (output : Bool) :
    (cellOver c (List.replicate quiet v) v (timer, output)).2 =
      if quiet = 0 then output else decide (timer = quiet) := by
  induction quiet generalizing timer output with
  | zero => rfl
  | succ quiet ih =>
    rw [List.replicate_succ, cellOver, CellConfig.timed_settle_quiet hmode, ih, if_neg quiet.succ_ne_zero]
    split
    case isTrue hlast => rw [hlast]
    case isFalse hmore => exact decide_eq_decide.mpr (by omega)

/-- Settles O25: the qualifying change starts the run of `cellOver_stretch_high` at 1, and the countdown of `cellOver_settle_quiet`
at N. -/
theorem stretchAndSettleRuns : Obligations.StretchAndSettleRuns := by
  refine ⟨fun c timer old new values hmode hpositive hq hvalues => ?_,
    fun c timer quiet output old new hmode hpositive hq => ?_⟩
  · obtain ⟨hstarts, -⟩ := CellConfig.timed_stretch (timer := timer) (output := false) hmode
    rw [cellOver, hstarts rfl hq, cellOver_stretch_high hmode values hpositive (by omega)]
    exact decide_eq_decide.mpr (by omega)
  · rw [cellOver, CellConfig.timed_settle_of_qualifies hmode hq, cellOver_settle_quiet hmode]
    split
    case isTrue hnone => exact (decide_eq_false (by omega)).symm
    case isFalse => exact decide_eq_decide.mpr eq_comm

end Sys2Proof.Machine
end

section
/-! SUPPORT. The request unit, operation by operation: what a raise, a re-test and a write leave in the pending set and in the source
table (R97 to R102), and the law of its pending records. -/

namespace Sys2Proof.Machine
namespace RequestUnit

variable {u v : RequestUnit} {i j : Fin 36}

/-! ### Raises (R96, R98 to R100) -/

/-- Whether a source qualifies is read from its setting and M alone (R98). -/
theorem qualifies_congr (hsetting : v.settings[i] = u.settings[i]) (hmask : v.mask = u.mask) : v.qualifies i = u.qualifies i := by
  simp only [qualifies, hsetting, hmask]

@[simp] theorem raise_none (u : RequestUnit) (i : Fin 36) (cause : Nat) : u.raise i none cause = u := rfl

theorem raise_of_not_qualifies (h : u.qualifies i = false) (k : Kind) (cause : Nat) :
    u.raise i (some k) cause = { u with droppedCount := raiseCount u.droppedCount 1 } := by
  simp [raise, h]

theorem raise_of_waiting_none (h : u.qualifies i = true) (hw : u.waiting[i] = none) (k : Kind) (cause : Nat) :
    u.raise i (some k) cause =
      { u with
        waiting := u.waiting.set i (some { kind := k, level := (u.settings[i]).level.val, causeStep := cause, merged := 0 }) } := by
  simp only [raise, h, hw, if_true]

theorem raise_of_waiting_some {p : PendingRequest} (h : u.qualifies i = true) (hw : u.waiting[i] = some p) (k : Kind) (cause : Nat) :
    u.raise i (some k) cause =
      { u with
        waiting := u.waiting.set i (some (p.merge k (u.settings[i]).level.val)), mergedCount := raiseCount u.mergedCount 1 } := by
  simp only [raise, h, hw, if_true]

/-- A raise leaves the source table, M, and the counts of cancels and placements. -/
@[simp] theorem raise_tables (u : RequestUnit) (i : Fin 36) (kind : Option Kind) (cause : Nat) :
    (u.raise i kind cause).settings = u.settings ∧ (u.raise i kind cause).underrunKind = u.underrunKind ∧
      (u.raise i kind cause).clampKind = u.clampKind ∧ (u.raise i kind cause).mask = u.mask ∧
      (u.raise i kind cause).cancelCount = u.cancelCount ∧ (u.raise i kind cause).placedCount = u.placedCount := by
  unfold raise
  dsimp only
  (repeat' split) <;> exact ⟨rfl, rfl, rfl, rfl, rfl, rfl⟩

@[simp] theorem raise_qualifies (u : RequestUnit) (i j : Fin 36) (kind : Option Kind) (cause : Nat) :
    (u.raise i kind cause).qualifies j = u.qualifies j :=
  qualifies_congr (by simp) (by simp)

/-- A raise reaches the pending record of its own source only. -/
theorem raise_waiting_of_ne (h : j ≠ i) (kind : Option Kind) (cause : Nat) :
    (u.raise i kind cause).waiting[j] = u.waiting[j] := by
  have hne : i.val ≠ j.val := fun he => h (Fin.ext he.symm)
  unfold raise
  dsimp only
  (repeat' split) <;> simp [hne]

/-- What a raise makes of the record of its source depends on this record and on the source's setting and M alone. -/
theorem raise_waiting_congr (hwaiting : v.waiting[i] = u.waiting[i]) (hsettings : v.settings = u.settings) (hmask : v.mask = u.mask)
    (kind : Option Kind) (cause : Nat) : (v.raise i kind cause).waiting[i] = (u.raise i kind cause).waiting[i] := by
  have hq : v.qualifies i = u.qualifies i := qualifies_congr (by rw [hsettings]) hmask
  unfold raise
  simp only [hwaiting, hsettings, hq]
  (repeat' split) <;> simp_all

/-! ### Re-tests (R102) -/

@[simp] theorem retest_qualifies (u : RequestUnit) (i j : Fin 36) (level : PendingRequest → Nat) :
    (u.retest i level).qualifies j = u.qualifies j :=
  qualifies_congr (by simp) (by simp)

/-- A re-test removes the record of a source that does not qualify, gives another one its level, and leaves the other sources. -/
theorem retest_waiting (u : RequestUnit) (i j : Fin 36) (level : PendingRequest → Nat) :
    (u.retest i level).waiting[j] =
      if j = i then if u.qualifies i then (u.waiting[i]).map fun p => { p with level := level p } else none
      else u.waiting[j] := by
  by_cases hji : j = i
  · subst hji
    cases hw : u.waiting[j] <;> cases hq : u.qualifies j <;> simp_all [retest]
  · have hne : i.val ≠ j.val := fun he => hji (Fin.ext he.symm)
    rw [if_neg hji]
    unfold retest
    (repeat' split) <;> simp [hne]

/-- Every record of the list re-tested at its own level. -/
theorem foldl_retest_waiting (l : List (Fin 36)) (u : RequestUnit) (j : Fin 36) :
    (l.foldl (fun v source => v.retest source fun p => p.level) u).waiting[j] =
      if j ∈ l ∧ u.qualifies j = false then none else u.waiting[j] := by
  induction l generalizing u with
  | nil => simp
  | cons i rest ih =>
    rw [List.foldl_cons, ih, retest_waiting, retest_qualifies]
    by_cases hji : j = i
    · subst hji
      cases u.qualifies j <;> simp
    · simp [hji]

/-- The re-tests leave the source table and M. -/
theorem foldl_retest_tables (l : List (Fin 36)) (u : RequestUnit) :
    let v := l.foldl (fun v source => v.retest source fun p => p.level) u
    v.settings = u.settings ∧ v.mask = u.mask := by
  induction l generalizing u with
  | nil => exact ⟨rfl, rfl⟩
  | cons i rest ih => simpa using ih (u.retest i fun p => p.level)

/-- A write of M keeps exactly the records whose sources still qualify (R102). -/
theorem writeMask_waiting (u : RequestUnit) (mask : Fin 4) (j : Fin 36) :
    (u.writeMask mask).waiting[j] = if ({ u with mask } : RequestUnit).qualifies j then u.waiting[j] else none := by
  rw [writeMask, foldl_retest_waiting]
  cases ({ u with mask } : RequestUnit).qualifies j <;> simp

theorem writeMask_settings (u : RequestUnit) (mask : Fin 4) : (u.writeMask mask).settings = u.settings :=
  (foldl_retest_tables _ _).1

/-! ### The law of the pending records (R97, R99, R100, R102) -/

/-- The record pending for a source, if there is one, fits it. -/
def SoundAt (u : RequestUnit) (i : Fin 36) : Prop := ∀ p ∈ u.waiting[i], u.Fits i p

/-- Every pending record fits its source, and sources 33 and 35 are as R97 fixes them. -/
def Law (u : RequestUnit) : Prop :=
  (∀ i, u.SoundAt i) ∧ u.settings[33] = { enable := true, level := 3 } ∧ u.settings[35] = { enable := true, level := 3 }

theorem SoundAt.congr (h : u.SoundAt i) (hwaiting : v.waiting[i] = u.waiting[i] ∨ v.waiting[i] = none)
    (hsetting : v.settings[i] = u.settings[i]) (hmask : v.mask = u.mask) : v.SoundAt i := by
  intro p hp
  obtain hw | hw := hwaiting
  · obtain ⟨hq, hlevel, hmerged⟩ := h p (hw ▸ hp)
    exact ⟨(qualifies_congr hsetting hmask).trans hq, by rw [hsetting, hlevel], hmerged⟩
  · simp [hw] at hp

/-- Records that leave the pending set leave the others lawful. -/
theorem Law.of_removed (h : u.Law) (hwaiting : ∀ i : Fin 36, v.waiting[i] = u.waiting[i] ∨ v.waiting[i] = none)
    (hsettings : v.settings = u.settings) (hmask : v.mask = u.mask) : v.Law := by
  obtain ⟨hsound, hring, hlate⟩ := h
  exact ⟨fun i => (hsound i).congr (hwaiting i) (by rw [hsettings]) hmask, by rw [hsettings, hring], by rw [hsettings, hlate]⟩

theorem Law.release (h : u.Law) (i : Fin 36) : (u.release i).Law := by
  refine h.of_removed (fun j => ?_) rfl rfl
  by_cases hij : i.val = j.val <;> simp [RequestUnit.release, hij]

theorem Law.emptied (h : u.Law) : u.emptied.Law :=
  h.of_removed (fun _ => .inr (by simp [RequestUnit.emptied])) rfl rfl

/-- A raise adds a record at its source's level, or takes the pending one to it (R99, R100). -/
theorem SoundAt.raise (h : u.SoundAt i) (kind : Option Kind) (cause : Nat) : (u.raise i kind cause).SoundAt i := by
  cases kind with
  | none => exact h
  | some k =>
    cases hq : u.qualifies i with
    | false =>
      rw [raise_of_not_qualifies hq]
      exact h.congr (.inl rfl) rfl rfl
    | true =>
      intro p hp
      refine ⟨(raise_qualifies u i i _ cause).trans hq, ?_⟩
      rw [(raise_tables u i _ cause).1]
      cases hw : u.waiting[i] with
      | none =>
        rw [raise_of_waiting_none hq hw] at hp
        obtain rfl := by simpa using hp
        exact ⟨rfl, Nat.zero_le _⟩
      | some old =>
        rw [raise_of_waiting_some hq hw] at hp
        obtain rfl := by simpa using hp
        exact ⟨rfl, Nat.min_le_right _ _⟩

theorem Law.raise (h : u.Law) (i : Fin 36) (kind : Option Kind) (cause : Nat) : (u.raise i kind cause).Law := by
  obtain ⟨hsound, hring, hlate⟩ := h
  refine ⟨fun j => ?_, by simpa using hring, by simpa using hlate⟩
  by_cases hji : j = i
  · subst hji
    exact (hsound j).raise kind cause
  · exact (hsound j).congr (.inl (raise_waiting_of_ne hji kind cause)) (by simp) (by simp)

/-- A setting written at a source other than 33 and 35, with a re-test that leaves a record at the setting's level (R102). -/
theorem Law.set_retest (h : u.Law) (hring : i ≠ 33) (hlate : i ≠ 35) (setting : SourceSetting) (level : PendingRequest → Nat)
    (hlevel : ∀ p ∈ u.waiting[i], level p = setting.level.val) :
    (({ u with settings := u.settings.set i setting } : RequestUnit).retest i level).Law := by
  obtain ⟨hsound, h33, h35⟩ := h
  have hkept {j : Fin 36} (hji : j ≠ i) : (u.settings.set i setting)[j] = u.settings[j] :=
    Vector.getElem_set_ne _ _ fun he => hji (Fin.ext he.symm)
  refine ⟨fun j => ?_, ?_, ?_⟩
  · by_cases hji : j = i
    · subst hji
      intro p hp
      rw [retest_waiting, if_pos rfl] at hp
      split at hp
      case isTrue hq =>
        obtain ⟨old, hold, rfl⟩ := Option.map_eq_some_iff.mp hp
        exact ⟨(retest_qualifies _ j j level).trans hq, by simp [hlevel old hold], (hsound j old hold).2.2⟩
      case isFalse => simp at hp
    · exact (hsound j).congr (.inl (by rw [retest_waiting, if_neg hji])) (by simpa using hkept hji) (by simp)
  · simpa using (hkept hring.symm).trans h33
  · simpa using (hkept hlate.symm).trans h35

/-- A write to a field that the SOURCE table writes (R97, R102). -/
theorem Law.write (h : u.Law) {field n : Nat} (hwrites : TableName.source.writes i field = true)
    (hw : u.write i field n = some v) : v.Law := by
  obtain ⟨hring, hlate⟩ : i ≠ 33 ∧ i ≠ 35 := by
    refine ⟨?_, ?_⟩ <;> rintro rfl <;> simp [TableName.writes] at hwrites
  match field with
  | 0 =>
    obtain ⟨enable, -, rfl⟩ := Option.map_eq_some_iff.mp hw
    exact h.set_retest hring hlate _ _ fun p hp => (h.1 i p hp).2.1
  | 1 =>
    obtain ⟨level, -, rfl⟩ := Option.map_eq_some_iff.mp hw
    exact h.set_retest hring hlate _ _ fun _ _ => rfl
  | 2 =>
    obtain ⟨kind, -, rfl⟩ := Option.map_eq_some_iff.mp hw
    split <;> exact h.of_removed (fun _ => .inl rfl) rfl rfl
  | k + 3 => cases hw

theorem Law.writeMask (h : u.Law) (mask : Fin 4) : (u.writeMask mask).Law := by
  obtain ⟨hsound, hring, hlate⟩ := h
  refine ⟨fun i p hp => ?_, by rw [writeMask_settings, hring], by rw [writeMask_settings, hlate]⟩
  rw [writeMask_waiting] at hp
  split at hp
  case isTrue hq =>
    obtain ⟨-, hlevel, hmerged⟩ := hsound i p hp
    have hstill : (u.writeMask mask).qualifies i = true := by
      rw [← hq]
      exact qualifies_congr (by rw [writeMask_settings]) (u.writeMask_mask mask)
    exact ⟨hstill, by rw [writeMask_settings, hlevel], hmerged⟩
  case isFalse => simp at hp

end RequestUnit
end Sys2Proof.Machine
end

section
/-! SUPPORT. An event entry in one step (R80 to R86): when it matches, what the match makes of it, what it raises, and the law of its
running state (R78). -/

namespace Sys2Proof.Machine

/-! ### Matches (R80 to R83) -/

section entries

variable {e : EventEntry} {step : Nat} {tracks : Vector TrackRun 24} {cells : Vector CellRun 16}

theorem EventEntry.matches_iff :
    e.matches_ step tracks cells = true ↔ (e.enabled = true ∧ e.done = false) ∧ e.meets step tracks cells = true := by
  simp [matches_]

theorem EventEntry.meets_compare_step (htype : e.type = .compare) (hbase : e.base = .step) :
    e.meets step tracks cells = true ↔ step = e.value := by
  simp [meets, htype, hbase]

theorem EventEntry.meets_compare_edges (htype : e.type = .compare) (hbase : e.base = .edges) :
    e.meets step tracks cells = true ↔
      (tracks[e.baseTrack]).lastEdge = .rise ∧ (tracks[e.baseTrack]).edges = e.value % 2 ^ 32 := by
  simp [meets, htype, hbase]

theorem EventEntry.meets_capture (htype : e.type = .capture) :
    e.meets step tracks cells = true ↔ (cells[e.captureCell]).lastChange = e.captureEdge.change := by
  simp [meets, htype]

/-! ### The entry after a match (R84, R85) -/

theorem EventEntry.stepped_of_not_matches (h : e.matches_ step tracks cells = false) : e.stepped step tracks cells = e := by
  simp [stepped, h]

theorem EventEntry.stepped_of_matches (h : e.matches_ step tracks cells = true) :
    e.stepped step tracks cells = e.afterMatch step tracks := by
  simp [stepped, h]

theorem EventEntry.exhausts_iff : e.exhausts = true ↔ e.limit ≠ 0 ∧ e.remainingAfter = 0 := by
  simp [exhausts]

theorem EventEntry.exhausts_eq (e : EventEntry) : e.exhausts = decide (e.limit ≠ 0 ∧ e.remainingAfter = 0) := by
  rw [Bool.eq_iff_iff, exhausts_iff, decide_eq_true_iff]

/-- A matching entry was not done, so a match makes it done by its limit or by its value alone. -/
theorem EventEntry.afterMatch_of_not_done (h : e.done = false) :
    e.afterMatch step tracks =
      { e with
        hits := min (e.hits + 1) 65535, remaining := e.remainingAfter, value := (e.valueAfter step tracks).1
        done := e.exhausts || (e.valueAfter step tracks).2 } := by
  simp [afterMatch, raiseCount, h]

/-- The value and the end of a COMPARE entry (R85). -/
theorem EventEntry.valueAfter_compare (htype : e.type = .compare) :
    (e.period = 0 → e.valueAfter step tracks = (e.value, true)) ∧
      (0 < e.period → e.base = .step → e.value + e.period ≤ maxStep →
        e.valueAfter step tracks = (e.value + e.period, false)) ∧
      (0 < e.period → e.base = .step → maxStep < e.value + e.period → e.valueAfter step tracks = (e.value, true)) ∧
      (0 < e.period → e.base = .edges →
        e.valueAfter step tracks = ((e.value % 2 ^ 32 + e.period) % 2 ^ 32, false)) := by
  refine ⟨fun hperiod => ?_, fun hperiod hbase hle => ?_, fun hperiod hbase hlt => ?_, fun hperiod hbase => ?_⟩
  · simp [valueAfter, htype, hperiod]
  · simp [valueAfter, htype, hbase, hperiod.ne', hle]
  · simp [valueAfter, htype, hbase, hperiod.ne', hlt]
  · simp [valueAfter, htype, hbase, hperiod.ne']

/-- The value a CAPTURE entry stores, which does not end it (R83). -/
theorem EventEntry.valueAfter_capture (htype : e.type = .capture) :
    e.valueAfter step tracks =
      (if e.keepFirst = true ∧ e.hits ≠ 0 then e.value
        else if e.base = .step then step - 1 else (tracks[e.baseTrack]).edges, false) := by
  cases hbase : e.base <;> simp [valueAfter, captured, htype, hbase]

/-! ### Raises (R86) -/

theorem EventEntry.raises_eq_some_iff {k : Kind} :
    e.raises step tracks cells = some k ↔
      e.matches_ step tracks cells = true ∧ e.requestKind = some k ∧ (e.requestWhen = .last → e.exhausts = true) := by
  cases hm : e.matches_ step tracks cells <;> cases hw : e.requestWhen <;> simp [raises, hm, hw, and_comm]

/-! ### The law of an entry (R78) -/

/-- A step keeps an entry in its law: a match that brings remaining to 0 makes the entry done. -/
theorem EventEntry.Fits.stepped (h : e.Fits) : (e.stepped step tracks cells).Fits := by
  obtain ⟨hle, hleft, hhits⟩ := h
  cases hm : e.matches_ step tracks cells with
  | false => rw [stepped_of_not_matches hm]; exact ⟨hle, hleft, hhits⟩
  | true =>
    rw [stepped_of_matches hm]
    refine ⟨?_, fun hlimit hdone => ?_, Nat.min_le_right _ _⟩
    · simp only [afterMatch, remainingAfter]
      split <;> omega
    · have hexhausts : e.exhausts = false := by simp_all [afterMatch]
      have hne : e.remainingAfter ≠ 0 := fun h0 => by simp [(exhausts_iff (e := e)).mpr ⟨hlimit, h0⟩] at hexhausts
      exact Nat.one_le_iff_ne_zero.mpr hne

theorem EventEntry.atOrigin_fits (e : EventEntry) : e.atOrigin.Fits :=
  ⟨le_rfl, fun hlimit _ => Nat.one_le_iff_ne_zero.mpr hlimit, Nat.zero_le _⟩

/-- A write leaves limit and running state, or sets the limit and reloads remaining (R78). -/
theorem EventEntry.Fits.write {e' : EventEntry} (h : e.Fits) {field v : Nat} (hw : e.write field v = some e') : e'.Fits := by
  obtain ⟨-, -, hhits⟩ := id h
  unfold EventEntry.write at hw
  split at hw
  case h_11 =>
    obtain ⟨limit, -, rfl⟩ := Option.map_eq_some_iff.mp hw
    exact ⟨le_rfl, fun hlimit _ => Nat.one_le_iff_ne_zero.mpr hlimit, hhits⟩
  case h_17 => cases hw
  all_goals
    obtain ⟨x, -, rfl⟩ := Option.map_eq_some_iff.mp hw
    exact h

end entries

end Sys2Proof.Machine
end

section
/-! SUPPORT. The raises of a step at the request unit (R86, R96, R99, R100), and the statement on entries and matches. -/

namespace Sys2Proof.Machine

/-! ### Several raises, one after another -/

/-- The source of an event entry (R97). -/
abbrev entrySource (i : Fin 32) : Fin 36 := ⟨i.val, by omega⟩

theorem entrySource_ne {i j : Fin 32} (h : i ≠ j) : entrySource i ≠ entrySource j :=
  fun he => h (Fin.ext (Fin.mk.inj_iff.mp he))

namespace RequestUnit

/-- The raises of the entries in `l`, in their order. -/
def raiseEach (l : List (Fin 32)) (kind : Fin 32 → Option Kind) (cause : Fin 32 → Nat) (u : RequestUnit) : RequestUnit :=
  l.foldl (fun v i => v.raise (entrySource i) (kind i) (cause i)) u

/-- A count raised `n` times by one (00_scope.md §4.5). -/
def countedUp (count n : Nat) : Nat := if n = 0 then count else min (count + n) 65535

theorem raiseCount_countedUp (count n : Nat) : raiseCount (countedUp count n) 1 = countedUp count (n + 1) := by
  unfold raiseCount countedUp
  split
  case isTrue h => simp [h]
  case isFalse => simp only [Nat.add_eq_zero_iff, one_ne_zero, and_false, if_false]; omega

/-- A count raised by one for each element that `p` picks out, with one more element at the end. -/
theorem countedUp_filter_concat {α : Type} (count : Nat) (p : α → Bool) (l : List α) (k : α) :
    countedUp count ((l ++ [k]).filter p).length =
      if p k then raiseCount (countedUp count (l.filter p).length) 1 else countedUp count (l.filter p).length := by
  rw [raiseCount_countedUp]
  cases h : p k <;> simp [h]

/-- The counts of drops and merges after one raise (R99, R100). -/
theorem raise_counts (u : RequestUnit) (i : Fin 36) (kind : Option Kind) (cause : Nat) :
    (u.raise i kind cause).droppedCount =
        (if kind.isSome && !u.qualifies i then raiseCount u.droppedCount 1 else u.droppedCount) ∧
      (u.raise i kind cause).mergedCount =
        if kind.isSome && u.qualifies i && (u.waiting[i]).isSome then raiseCount u.mergedCount 1 else u.mergedCount := by
  cases kind with
  | none => exact ⟨rfl, rfl⟩
  | some k =>
    cases hq : u.qualifies i with
    | false => rw [raise_of_not_qualifies hq]; exact ⟨rfl, rfl⟩
    | true =>
      cases hw : u.waiting[i] with
      | none => rw [raise_of_waiting_none hq hw]; exact ⟨rfl, rfl⟩
      | some p => rw [raise_of_waiting_some hq hw]; exact ⟨rfl, rfl⟩

section raiseEach

variable (l : List (Fin 32)) (kind : Fin 32 → Option Kind) (cause : Fin 32 → Nat) (u : RequestUnit)

theorem raiseEach_concat (i : Fin 32) :
    u.raiseEach (l ++ [i]) kind cause = (u.raiseEach l kind cause).raise (entrySource i) (kind i) (cause i) := by
  simp [raiseEach]

theorem raiseEach_tables :
    let v := u.raiseEach l kind cause
    v.settings = u.settings ∧ v.underrunKind = u.underrunKind ∧ v.clampKind = u.clampKind ∧ v.mask = u.mask ∧
      v.cancelCount = u.cancelCount ∧ v.placedCount = u.placedCount := by
  induction l using List.reverseRecOn with
  | nil => exact ⟨rfl, rfl, rfl, rfl, rfl, rfl⟩
  | append_singleton l i ih => simpa [raiseEach_concat] using ih

theorem raiseEach_qualifies (j : Fin 36) : (u.raiseEach l kind cause).qualifies j = u.qualifies j := by
  obtain ⟨hsettings, -, -, hmask, -⟩ := raiseEach_tables l kind cause u
  exact qualifies_congr (by rw [hsettings]) hmask

/-- Raises reach the records of their own sources only. -/
theorem raiseEach_waiting_of_ne {j : Fin 36} (h : ∀ i ∈ l, j ≠ entrySource i) :
    (u.raiseEach l kind cause).waiting[j] = u.waiting[j] := by
  induction l using List.reverseRecOn with
  | nil => rfl
  | append_singleton l i ih =>
    rw [raiseEach_concat, raise_waiting_of_ne (h i (by simp)), ih fun k hk => h k (by simp [hk])]

theorem raiseEach_waiting_of_notMem {i : Fin 32} (h : i ∉ l) :
    (u.raiseEach l kind cause).waiting[entrySource i] = u.waiting[entrySource i] :=
  raiseEach_waiting_of_ne l kind cause u fun _ hk => entrySource_ne fun he => h (he ▸ hk)

/-- Among raises of different entries, one reaches its source as if it were alone. -/
theorem raiseEach_waiting_of_mem (hl : l.Nodup) {i : Fin 32} (hi : i ∈ l) :
    (u.raiseEach l kind cause).waiting[entrySource i] =
      (u.raise (entrySource i) (kind i) (cause i)).waiting[entrySource i] := by
  induction l using List.reverseRecOn with
  | nil => simp at hi
  | append_singleton l k ih =>
    obtain ⟨hk, hnodup⟩ := (List.nodup_concat l k).mp (by rwa [List.concat_eq_append])
    obtain ⟨hsettings, -, -, hmask, -⟩ := raiseEach_tables l kind cause u
    rw [raiseEach_concat]
    by_cases hik : i = k
    · subst hik
      exact raise_waiting_congr (raiseEach_waiting_of_notMem l kind cause u hk) hsettings hmask _ _
    · rw [raise_waiting_of_ne (entrySource_ne hik), ih hnodup (by simpa [hik] using hi)]

/-- Raises of different entries are counted as if each found the request unit as it was before them all (R99, R100). -/
theorem raiseEach_counts (hl : l.Nodup) :
    (u.raiseEach l kind cause).droppedCount =
        countedUp u.droppedCount (l.filter fun i => (kind i).isSome && !u.qualifies (entrySource i)).length ∧
      (u.raiseEach l kind cause).mergedCount =
        countedUp u.mergedCount
          (l.filter fun i => (kind i).isSome && u.qualifies (entrySource i) && (u.waiting[entrySource i]).isSome).length := by
  induction l using List.reverseRecOn with
  | nil => exact ⟨rfl, rfl⟩
  | append_singleton l k ih =>
    obtain ⟨hk, hnodup⟩ := (List.nodup_concat l k).mp (by rwa [List.concat_eq_append])
    obtain ⟨hdropped, hmerged⟩ := ih hnodup
    have hlast := raise_counts (u.raiseEach l kind cause) (entrySource k) (kind k) (cause k)
    rw [raiseEach_qualifies, raiseEach_waiting_of_notMem _ _ _ _ hk, hdropped, hmerged] at hlast
    rw [raiseEach_concat, countedUp_filter_concat, countedUp_filter_concat]
    exact hlast

/-- Raises change nothing but the pending set and the counts of drops and merges. -/
theorem raiseEach_eq :
    u.raiseEach l kind cause =
      { u with
        waiting := (u.raiseEach l kind cause).waiting, droppedCount := (u.raiseEach l kind cause).droppedCount
        mergedCount := (u.raiseEach l kind cause).mergedCount } := by
  obtain ⟨hsettings, hunderrun, hclamp, hmask, hcancel, hplaced⟩ := raiseEach_tables l kind cause u
  generalize u.raiseEach l kind cause = v at *
  cases v
  simp_all

theorem Law.raiseEach {u : RequestUnit} (h : u.Law) : (u.raiseEach l kind cause).Law := by
  induction l using List.reverseRecOn with
  | nil => exact h
  | append_singleton l i ih => rw [raiseEach_concat]; exact ih.raise _ _ _

end raiseEach
end RequestUnit

/-- The raises of a step are those of the entries in ascending index (R86, R96). -/
theorem EventTable.raiseAll_eq (t : EventTable) (step : Nat) (tracks : Vector TrackRun 24) (cells : Vector CellRun 16)
    (u : RequestUnit) :
    t.raiseAll step tracks cells u =
      u.raiseEach (List.finRange 32) (fun i => (t.entries[i]).raises step tracks cells) fun i => (t.entries[i]).causeStep step := rfl

/-- Settles O28: `matches_iff` with the three ways to meet, `raiseEach` over the 32 entries, and `afterMatch_of_not_done` with the value
of each type. -/
theorem entriesAndTheirMatches : Obligations.EntriesAndTheirMatches := by
  refine ⟨fun e step tracks cells => ⟨fun htype hbase => ?_, fun htype hbase => ?_, fun htype hedge => ?_, fun htype hedge => ?_,
    fun h => ?_, fun k => ?_, fun htype => ?_, fun htype => ?_⟩, fun t step tracks cells u => ?_,
    fun e step tracks cells htype hm => ?_, fun e step tracks cells htype hm => ?_⟩
  · rw [EventEntry.matches_iff, EventEntry.meets_compare_step htype hbase]
  · rw [EventEntry.matches_iff, EventEntry.meets_compare_edges htype hbase]
  · rw [EventEntry.matches_iff, EventEntry.meets_capture htype, hedge]; rfl
  · rw [EventEntry.matches_iff, EventEntry.meets_capture htype, hedge]; rfl
  · exact EventEntry.stepped_of_not_matches h
  · rw [EventEntry.raises_eq_some_iff]
    refine and_congr_right fun hm => ?_
    rw [EventEntry.exhausts_iff, EventEntry.stepped_of_matches hm]
    rfl
  · simp [EventEntry.causeStep, htype]
  · simp [EventEntry.causeStep, htype]
  · dsimp only
    have hnodup := List.nodup_finRange 32
    rw [EventTable.raiseAll_eq]
    refine ⟨fun i => RequestUnit.raiseEach_waiting_of_mem _ _ _ u hnodup (List.mem_finRange i), fun j hj => ?_, ?_⟩
    · refine RequestUnit.raiseEach_waiting_of_ne _ _ _ u fun i _ he => ?_
      have hlt := i.isLt
      have hval : j.val = i.val := congrArg Fin.val he
      omega
    · obtain ⟨hdropped, hmerged⟩ := RequestUnit.raiseEach_counts (List.finRange 32)
        (fun i => (t.entries[i]).raises step tracks cells) (fun i => (t.entries[i]).causeStep step) u hnodup
      conv_lhs => rw [RequestUnit.raiseEach_eq, hdropped, hmerged]
      simp only [RequestUnit.countedUp, List.length_eq_zero_iff]
  · obtain ⟨⟨-, hdone⟩, -⟩ := EventEntry.matches_iff.mp hm
    obtain ⟨honce, hnext, hlast, hedges⟩ := EventEntry.valueAfter_compare (tracks := tracks) (step := step) htype
    rw [EventEntry.stepped_of_matches hm, EventEntry.afterMatch_of_not_done hdone]
    refine ⟨rfl, rfl, fun hperiod => ?_, fun hperiod hbase hle => ?_, fun hperiod hbase hlt => ?_, fun hperiod hbase => ?_⟩
    · rw [honce hperiod, Bool.or_true]; rfl
    · rw [hnext hperiod hbase hle, Bool.or_false, EventEntry.exhausts_eq]; rfl
    · rw [hlast hperiod hbase hlt, Bool.or_true]; rfl
    · rw [hedges hperiod hbase, Bool.or_false, EventEntry.exhausts_eq]; rfl
  · obtain ⟨⟨-, hdone⟩, -⟩ := EventEntry.matches_iff.mp hm
    rw [EventEntry.stepped_of_matches hm, EventEntry.afterMatch_of_not_done hdone, EventEntry.valueAfter_capture htype,
      Bool.or_false, EventEntry.exhausts_eq]
    rfl

end Sys2Proof.Machine
end

section
/-! SUPPORT. Gate flags and markers after a step (R88, R90). -/

namespace Sys2Proof.Machine

/-- With no offer a flag keeps its value (R88). -/
theorem settleFlag_nil (old : Bool) : settleFlag old [] = old := rfl

/-- The last element of a table that `p` picks out is the one of the highest index. -/
theorem getLast?_filter_of_highest {α : Type} {n : Nat} (v : Vector α n) (p : α → Bool) {i : Fin n} (hi : p v[i] = true)
    (habove : ∀ j, i < j → p v[j] = false) : (v.toList.filter p).getLast? = some v[i] := by
  have hsplit : v.toList = v.toList.take i ++ v[i] :: v.toList.drop (i + 1) := by
    have := List.take_append_drop i.val v.toList
    rw [List.drop_eq_getElem_cons (by simp)] at this
    simpa using this.symm
  have hnone : (v.toList.drop (i + 1)).filter p = [] := by
    rw [List.filter_eq_nil_iff]
    intro a ha
    obtain ⟨k, hk, rfl⟩ := List.mem_iff_getElem.mp ha
    rw [List.length_drop, Vector.length_toList] at hk
    have := habove ⟨i + 1 + k, by omega⟩ (Fin.lt_def.mpr (by simp; omega))
    simpa using this
  rw [hsplit, List.filter_append, List.filter_cons_of_pos hi, hnone]
  simp

namespace EventTable

variable {t : EventTable} {step : Nat} {tracks : Vector TrackRun 24} {cells : Vector CellRun 16}

theorem stepped_gates (t : EventTable) (g : Fin 8) :
    (t.stepped step tracks cells).gates[g] = settleFlag t.gates[g] (t.offersTo g step tracks cells) :=
  getElem_tabulate _ _ _

theorem stepped_entries (t : EventTable) (i : Fin 32) :
    (t.stepped step tracks cells).entries[i] = (t.entries[i]).stepped step tracks cells :=
  getElem_tabulate _ _ _

/-- A marker is high exactly if some entry with it matched (R90). -/
theorem stepped_markers (t : EventTable) (m : Fin 8) :
    (t.stepped step tracks cells).markers[m] = true ↔
      ∃ i : Fin 32, (t.entries[i]).matches_ step tracks cells = true ∧ (t.entries[i]).marker = some m := by
  have hmarker : (t.stepped step tracks cells).markers[m] =
      t.entries.toList.any fun e => e.matches_ step tracks cells && e.marker == some m := getElem_tabulate _ _ _
  rw [hmarker, List.any_eq_true]
  simp only [Vector.mem_toList_iff, Vector.mem_iff_getElem, Bool.and_eq_true, beq_iff_eq]
  exact ⟨fun ⟨_, ⟨i, hi, he⟩, hmatch⟩ => ⟨⟨i, hi⟩, he ▸ hmatch⟩,
    fun ⟨i, hmatch⟩ => ⟨_, ⟨i, i.isLt, rfl⟩, hmatch⟩⟩

theorem offers_iff (e : EventEntry) (g : Fin 8) :
    e.offers g step tracks cells = true ↔ e.matches_ step tracks cells = true ∧ e.gateOp ≠ .none ∧ e.gateFlag = g := by
  simp [EventEntry.offers, and_assoc]

theorem offersTo_eq_nil {g : Fin 8} (h : ∀ i : Fin 32, (t.entries[i]).offers g step tracks cells = false) :
    t.offersTo g step tracks cells = [] := by
  rw [offersTo, List.map_eq_nil_iff, List.filter_eq_nil_iff]
  intro e he
  obtain ⟨i, hi, rfl⟩ := Vector.mem_iff_getElem.mp (Vector.mem_toList_iff.mp he)
  simpa using h ⟨i, hi⟩

/-- Of the entries that operate a flag, the one with the highest index decides (R88). -/
theorem stepped_gates_of_highest {g : Fin 8} {i : Fin 32} (hi : (t.entries[i]).offers g step tracks cells = true)
    (habove : ∀ j, i < j → (t.entries[j]).offers g step tracks cells = false) :
    (t.stepped step tracks cells).gates[g] = (t.entries[i]).gateOp.apply t.gates[g] := by
  have hlast : (t.offersTo g step tracks cells).getLast? = some (t.entries[i]).gateOp := by
    rw [offersTo, List.getLast?_map, getLast?_filter_of_highest t.entries _ hi habove]
    rfl
  rw [stepped_gates, settleFlag, hlast]

end EventTable

/-- A marker's pin shows its level out of COLD (R90). -/
theorem State.markerPin_iff (s : State) (m : Fin 8) :
    s.markerPin m = true ↔ s.seq.runState ≠ .cold ∧ s.events.markers[m] = true := by
  simp [markerPin]

/-- Settles O29: `offersTo_eq_nil` and `stepped_gates_of_highest` for a flag, `stepped_markers` and `markerPin_iff` for a marker. -/
theorem flagsAndMarkersAfterStep : Obligations.FlagsAndMarkersAfterStep := by
  refine ⟨fun t step tracks cells g => ⟨fun hnone => ?_, fun i hi habove => ?_⟩, fun t step tracks cells m =>
    ⟨t.stepped_markers m, t.stepped_entries⟩, State.markerPin_iff⟩
  · have hoffers (i : Fin 32) : (t.entries[i]).offers g step tracks cells = false := by
      rw [← Bool.not_eq_true, EventTable.offers_iff]
      exact hnone i
    rw [EventTable.stepped_gates, EventTable.offersTo_eq_nil hoffers, settleFlag_nil]
  · have hoffers (j : Fin 32) (hj : i < j) : (t.entries[j]).offers g step tracks cells = false := by
      rw [← Bool.not_eq_true, EventTable.offers_iff]
      exact habove j hj
    have hdecides := EventTable.stepped_gates_of_highest ((EventTable.offers_iff _ g).mpr hi) hoffers
    refine ⟨fun hop => ?_, fun hop => ?_, fun hop => ?_⟩ <;> rw [hdecides, hop] <;> rfl

end Sys2Proof.Machine
end

section
/-! SUPPORT. The laws of the event table and of the request unit (R78, R97, R99, R100, R102) over every operation of the part, every command
and every tick. -/

namespace Sys2Proof.Machine

/-- The laws of the event table and of the request unit pass from `s` to `t`. -/
structure State.Upholds (s t : State) : Prop where
  events : s.EventLaw → t.EventLaw
  requests : s.requests.Law → t.requests.Law

namespace State

variable {s t u : State}

theorem requestLaw_iff {s : State} : s.RequestLaw ↔ s.requests.Law := Iff.rfl

theorem Upholds.laws (h : s.Upholds t) : (s.EventLaw → t.EventLaw) ∧ (s.RequestLaw → t.RequestLaw) :=
  ⟨h.events, by simpa only [requestLaw_iff] using h.requests⟩

/-! ### The relation -/

theorem Upholds.trans (h : s.Upholds t) (k : t.Upholds u) : s.Upholds u where
  events := k.events ∘ h.events
  requests := k.requests ∘ h.requests

theorem Upholds.ite {p : Prop} [Decidable p] (ht : p → s.Upholds t) (hu : ¬ p → s.Upholds u) :
    s.Upholds (if p then t else u) := by
  split
  · exact ht ‹_›
  · exact hu ‹_›

/-- An event that leaves the entries. -/
theorem Upholds.of_entries_eq (hentries : t.events.entries = s.events.entries) (hrequests : s.requests.Law → t.requests.Law) :
    s.Upholds t where
  events h := by rw [EventLaw, hentries]; exact h
  requests := hrequests

/-- An event that leaves the entries and the request unit. -/
theorem Upholds.of_frame (hentries : t.events.entries = s.events.entries) (hrequests : t.requests = s.requests) : s.Upholds t :=
  .of_entries_eq hentries fun h => hrequests ▸ h

/-- An event whose last part is one of a state with the same entries and request unit. -/
theorem Upholds.of_frame_trans (k : t.Upholds u) (hentries : t.events.entries = s.events.entries)
    (hrequests : t.requests = s.requests) : s.Upholds u :=
  (Upholds.of_frame hentries hrequests).trans k

theorem Upholds.refl (s : State) : s.Upholds s := .of_frame rfl rfl

/-! ### Raises, activations, origins and resets (R19, R22, R93, R157, R160) -/

variable (s)

theorem raise_upholds (i : Fin 36) (kind : Option Kind) (cause : Nat) : s.Upholds (s.raise i kind cause) :=
  .of_entries_eq rfl fun h => h.raise i kind cause

theorem raiseClamps_upholds (clamps cause : Nat) : s.Upholds (s.raiseClamps clamps cause) :=
  .ite (fun _ => .refl s) fun _ => s.raise_upholds _ _ _

theorem activate_upholds (a : Activation) : s.Upholds (s.activate a) :=
  .of_frame_trans (raiseClamps_upholds _ _ _) rfl rfl

theorem activateLate_upholds (a : Activation) : s.Upholds (s.activateLate a) :=
  (s.activate_upholds a).trans (.of_entries_eq (by simp [activateLate]) fun h => by simpa [activateLate] using h.raise _ _ _)

theorem activateAtOrigin_upholds (a : Activation) : s.Upholds (s.activateAtOrigin a) :=
  .of_frame_trans (raiseClamps_upholds _ _ _) rfl rfl

theorem readActivation_upholds (f : BeatFields) (origin : Bool) : s.Upholds (s.readActivation f origin) := by
  have weighed (t : State) (a : Activation) : t.Upholds (t.weighActivation a origin) :=
    .ite (fun _ => t.activateAtOrigin_upholds a) fun _ => .ite (fun _ => t.activateLate_upholds a) fun _ => .refl t
  exact .ite (fun _ => .of_frame_trans (weighed _ _) rfl rfl) fun _ => .refl s

/-- At origin and at an in-band reset every entry starts again, and the pending set is emptied (R93, R109). -/
theorem Upholds.of_restart {s t : State} (hevents : t.events = s.events.atOrigin) (hrequests : t.requests = s.requests.emptied) :
    s.Upholds t where
  events _ i := by
    have hentry : t.events.entries[i] = (s.events.entries[i]).atOrigin := by
      rw [hevents]; exact getElem_tabulate _ _ _
    rw [hentry]
    exact EventEntry.atOrigin_fits _
  requests h := by rw [hrequests]; exact h.emptied

theorem performOrigin_upholds (number : Nat) : s.Upholds (s.performOrigin number) :=
  .trans (.of_restart rfl rfl) (raiseClamps_upholds _ _ _)

theorem resetBlocks_upholds : s.Upholds s.resetBlocks := .of_restart rfl rfl

theorem expireOverdue_upholds : s.Upholds s.expireOverdue := .of_frame (by simp) (by simp)

theorem announceOrigin_upholds : s.Upholds s.announceOrigin := by
  have told : s.Upholds s.announced := (s.performOrigin_upholds (nextOrigin s.root.announcedOrigin)).trans (.of_frame rfl rfl)
  exact .ite (fun _ => told.trans (expireOverdue_upholds _)) fun _ => told

theorem resetPart_upholds : s.Upholds s.resetPart := by
  have cleared : s.Upholds (s.setRoot s.root.cleared) := .of_frame rfl rfl
  unfold resetPart
  split
  · exact s.resetBlocks_upholds
  · exact .ite (fun _ => cleared.trans (announceOrigin_upholds _)) fun _ => cleared.trans (resetBlocks_upholds _)

/-! ### Emissions (R106, R130, R132, R145) -/

/-- The root takes its own best record out of the pending set (R106). -/
theorem takeOwnRequest_upholds : s.Upholds s.takeOwnRequest := by
  unfold takeOwnRequest
  split
  · exact .refl s
  case h_2 i p _ =>
    have released : s.Upholds (s.setRequests (s.requests.release i)) := .of_entries_eq rfl fun h => h.release i
    exact released.trans (.of_frame (by simp) (by simp))

/-- After the root's own request an emission leaves the request unit. -/
theorem emit_requests : s.emit.requests = s.takeOwnRequest.requests := by
  unfold emit
  dsimp only
  (repeat' split) <;> simp

theorem emit_upholds : s.Upholds s.emit :=
  s.takeOwnRequest_upholds.trans (.of_frame (by simp) s.emit_requests)

theorem emitOrDefer_upholds : s.Upholds s.emitOrDefer :=
  .ite (fun _ => s.emit_upholds) fun _ => .of_frame rfl rfl

theorem emitDeferred_upholds : s.Upholds s.emitDeferred :=
  .ite (fun _ => .of_frame_trans (emit_upholds _) rfl rfl) fun _ => .refl s

theorem cadence_upholds (spacing : Nat) : s.Upholds (s.cadence spacing) :=
  .ite (fun _ => .ite (fun _ => s.emitDeferred_upholds) fun _ =>
    .ite (fun _ => .of_frame_trans (emitOrDefer_upholds _) rfl rfl) fun _ => .of_frame rfl rfl) fun _ => .refl s

theorem startRun_upholds (target : Option Nat) : s.Upholds (s.startRun target) :=
  .of_frame_trans (emitOrDefer_upholds _) rfl rfl

/-! ### Steps and strobes (R4, R5, R6, R15) -/

/-- A step computes every entry, and its raises reach the request unit (R86). -/
theorem computeStep_upholds (watch : BitVec 16) (step : Nat) : s.Upholds (s.computeStep watch step) where
  events h i := by
    have hentry : (s.computeStep watch step).events.entries[i] = (s.events.entries[i]).stepped step s.tracks s.cells :=
      s.events.stepped_entries i
    rw [hentry]
    exact (h i).stepped
  requests h := h.raiseEach _ _ _

theorem applyDue_upholds (step : Nat) : s.Upholds (s.applyDue step) := by
  unfold applyDue
  split
  · exact .refl s
  · exact .ite (fun _ => s.activate_upholds _) fun _ => .refl s

theorem takeStep_upholds (watch : BitVec 16) : s.Upholds (s.takeStep watch) := by
  have computed := (s.applyDue_upholds (s.seq.step + 1)).trans (computeStep_upholds _ watch (s.seq.step + 1))
  exact .ite (fun _ => computed.trans (expireOverdue_upholds _)) fun _ => computed

theorem underrun_upholds : s.Upholds s.underrun :=
  .of_frame_trans (raise_upholds _ _ _ _) rfl rfl

theorem actOnStrobe_upholds (watch : BitVec 16) : s.Upholds (s.actOnStrobe watch) := by
  have ended (t : State) : t.Upholds t.endHalting := .of_frame (by simp) (by simp)
  unfold actOnStrobe
  split
  case h_1 => exact .ite (fun _ => s.takeStep_upholds watch) fun _ => s.underrun_upholds
  case h_2 => exact .ite (fun _ => (s.takeStep_upholds watch).trans (ended _)) fun _ => .refl s
  all_goals exact .refl s

theorem strobe_upholds (watch : BitVec 16) (order : StrobeOrder) : s.Upholds (s.strobe watch order) := by
  have struck : s.Upholds s.struck := .of_frame rfl rfl
  have loaded (t : State) : t.Upholds t.paceLoaded := .of_frame rfl rfl
  cases order
  case stepFirst => exact ((struck.trans (actOnStrobe_upholds _ watch)).trans (cadence_upholds _ _)).trans (loaded _)
  case emissionFirst => exact ((struck.trans (cadence_upholds _ _)).trans (actOnStrobe_upholds _ watch)).trans (loaded _)

/-! ### Beat frames (R10, R103, R119) -/

/-- A record placed in a slot leaves the pending set (R104). -/
theorem placeRequest_upholds (bytes : List Byte) : s.Upholds (s.placeRequest bytes).1 := by
  unfold placeRequest
  (repeat' split)
  case h_1.isTrue i _ _ _ _ _ => exact .of_entries_eq rfl fun h => h.release i
  all_goals exact .refl s

theorem readBeatFields_upholds (f : BeatFields) : s.Upholds (s.readBeatFields f) := by
  have restarted : s.Upholds s.watchdogRestarted := .of_frame rfl rfl
  have synced : s.Upholds (s.originRead f) :=
    .ite (fun _ => restarted.trans (performOrigin_upholds _ _)) fun _ => restarted
  exact synced.trans (.of_frame rfl rfl)

theorem passBeat_upholds (bytes : List Byte) : s.Upholds (s.passBeat bytes) := by
  have read := (s.readBeatFields_upholds (readBeat bytes)).trans
    (readActivation_upholds _ (readBeat bytes) (s.seq.mustOrigin (readBeat bytes)))
  exact (read.trans (placeRequest_upholds _ bytes)).trans (.of_frame rfl rfl)

/-! ### Service commands (R78, R89, R102, R166 to R168) -/

/-- A write to a field that the table writes. -/
theorem writeField_upholds {table : TableName} {index field v : Nat} {t : State} (hwrites : table.writes index field = true)
    (hw : s.writeField table index field v = some t) : s.Upholds t := by
  cases table <;> simp only [writeField] at hw
  case event =>
    split at hw
    case isTrue hindex =>
      obtain ⟨e, he, rfl⟩ := Option.map_eq_some_iff.mp hw
      refine ⟨fun h i => ?_, id⟩
      by_cases hi : index = i.val
      · subst hi
        simpa using (h i).write he
      · simpa [hi] using h i
    case isFalse => cases hw
  case source =>
    split at hw
    case isTrue hindex =>
      obtain ⟨v, hv, rfl⟩ := Option.map_eq_some_iff.mp hw
      exact .of_entries_eq rfl fun h => h.write hwrites hv
    case isFalse => cases hw
  case mask =>
    obtain ⟨mask, -, rfl⟩ := Option.map_eq_some_iff.mp hw
    exact .of_entries_eq rfl fun h => by rw [setRequests_requests]; exact h.writeMask mask
  case trackStaged | laneStaged | cellStaged =>
    split at hw
    · obtain ⟨x, -, rfl⟩ := Option.map_eq_some_iff.mp hw
      exact .of_frame rfl rfl
    · cases hw
  case headerStaged | gate =>
    obtain ⟨x, -, rfl⟩ := Option.map_eq_some_iff.mp hw
    exact .of_frame rfl rfl
  all_goals cases hw

theorem writeAt_upholds (table : TableName) (index field v : Nat) : s.Upholds (s.writeAt table index field v).state := by
  unfold writeAt
  (repeat' split)
  case h_2 hwrites _ _ _ hw => exact s.writeField_upholds (Bool.of_not_eq_false hwrites) hw
  all_goals exact .refl s

/-- The bits written are gate flags or a staged truth table (R168). -/
theorem bitsAt_upholds (table : TableName) (index field v : Nat) (change : Vector Bool 8 → Nat → Vector Bool 8)
    (reply : Vector Bool 8 → Nat) : s.Upholds (s.bitsAt table index field v change reply).state := by
  unfold bitsAt refuse accept setBitLevels
  (repeat' split) <;> exact .of_frame rfl rfl

theorem onTable_upholds (f : ServiceFrame) {act : TableName → Answer} (hact : ∀ table, s.Upholds (act table).state) :
    s.Upholds (s.onTable f act).state := by
  unfold onTable
  split
  · exact .refl s
  · exact hact _

theorem atCursor_upholds (f : ServiceFrame) {act : TableName → Nat → Answer} (hact : ∀ table n, s.Upholds (act table n).state) :
    s.Upholds (s.atCursor f act).state := by
  unfold atCursor Answer.advancing
  dsimp only
  (repeat' split)
  · exact .refl s
  · exact (hact _ _).trans (.of_frame rfl rfl)
  · exact hact _ _

theorem tryRun_upholds (target : Option Nat) (reply : Nat) : s.Upholds (s.tryRun target reply).state := by
  unfold tryRun
  split
  · exact .refl s
  · exact s.startRun_upholds target

theorem perform_upholds (c : CommandName) (f : ServiceFrame) : s.Upholds (s.perform c f).state := by
  cases c <;> simp only [perform]
  case read => exact s.onTable_upholds f fun _ => by rw [readAt_state]; exact .refl s
  case write => exact s.onTable_upholds f fun _ => s.writeAt_upholds _ _ _ _
  case cursor => exact s.onTable_upholds f fun _ => by split <;> exact .of_frame rfl rfl
  case readNext => exact s.atCursor_upholds f fun _ _ => by rw [readAt_state]; exact .refl s
  case writeNext => exact s.atCursor_upholds f fun _ _ => s.writeAt_upholds _ _ _ _
  case setBits | clearBits | testSet => exact s.onTable_upholds f fun _ => s.bitsAt_upholds _ _ _ _ _ _
  case resetPart => exact s.resetPart_upholds
  case origin => unfold serveOrigin; (repeat' split) <;> first | exact .refl s | exact s.announceOrigin_upholds
  case run => unfold serveRun; split <;> first | exact s.tryRun_upholds _ _ | exact .refl s
  case runFor =>
    unfold serveRunFor
    dsimp only
    (repeat' split) <;> first | exact s.tryRun_upholds _ _ | exact .of_frame rfl rfl
  case pause =>
    unfold servePause
    split
    case h_1 => exact .of_frame (by simp [accept]) (by simp [accept])
    all_goals exact .refl s
  case copyLive => unfold serveCopyLive; (repeat' split) <;> exact .of_frame rfl rfl
  case takeNotice => unfold serveTakeNotice; (repeat' split) <;> exact .of_frame rfl rfl
  case clearBreak => unfold serveClearBreak; (repeat' split) <;> exact .of_frame rfl rfl
  case swap => unfold serveSwap; (repeat' split) <;> exact .of_frame rfl rfl
  case enumerate => unfold serveEnumerate; (repeat' split) <;> exact .of_frame rfl rfl

theorem takeService_upholds (code : BitVec 8) (f : ServiceFrame) : s.Upholds (s.takeService code f) := by
  have answered : s.Upholds (s.answer code f).state := by
    unfold answer
    (repeat' split)
    case isFalse.isFalse => exact s.perform_upholds _ f
    all_goals exact .refl s
  exact .ite (fun _ => answered.trans (.of_frame rfl rfl)) fun _ => .of_frame rfl rfl

/-! ### Arrivals (R110, R113 to R115, R176) -/

/-- A frame that fails its check raises RING_CHECK (R114). -/
theorem discardFailed_upholds : s.Upholds s.discardFailed := .of_frame_trans (raise_upholds _ _ _ _) rfl rfl

theorem takeFrame_upholds (bytes : List Byte) : s.Upholds (s.takeFrame bytes) := by
  have beat (frame : List Byte) : s.Upholds (s.dispatchBeat frame) := by
    unfold dispatchBeat
    split
    · exact s.passBeat_upholds frame
    · exact .of_frame (by simp) (by simp)
  refine .ite (fun _ => ?_) fun _ => s.discardFailed_upholds
  unfold dispatch
  split
  case h_1 => exact .of_frame rfl rfl
  case h_2 => exact .ite (fun _ => .of_frame rfl rfl) fun _ => beat _
  case h_3 => exact s.takeService_upholds _ _
  case h_4 => exact .of_frame (by simp) (by simp)

theorem setReception_upholds (r : Reception) : s.Upholds (s.setReception r) := .of_frame rfl rfl

theorem onArrival_upholds {act : State → State} (hact : ∀ t : State, t.Upholds (act t)) : s.Upholds (s.onArrival act) :=
  .ite (fun _ => (s.setReception_upholds _).trans (hact _)) fun _ => s.setReception_upholds _

theorem frameCompletedEarly_upholds (bytes : List Byte) : s.Upholds (s.frameCompletedEarly bytes) :=
  .ite (fun _ => (s.setReception_upholds _).trans (takeFrame_upholds _ bytes)) fun _ => .refl s

/-! ### The reference, the watchdog and time (R7, R17) -/

theorem loseReference_upholds : s.Upholds s.loseReference := by
  unfold loseReference
  dsimp only
  split <;> exact .of_frame (by simp) (by simp)

theorem expireWatchdog_upholds : s.Upholds s.expireWatchdog := by
  unfold expireWatchdog
  dsimp only
  split <;> exact .of_frame (by simp) (by simp)

theorem tick_upholds : s.Upholds s.tick := by
  unfold tick referencePeriod microsecond
  dsimp only
  (repeat' split) <;> exact .of_frame rfl rfl

end State

/-! ### Every command -/

/-- A hardware reset leaves the event table and the request unit as they are after power-on (R94, R109). -/
theorem State.hardwareReset_laws (s : State) (cause : ResetCause) (level : Bool) :
    (s.hardwareReset cause level).EventLaw ∧ (s.hardwareReset cause level).RequestLaw :=
  ⟨State.reset_eventLaw, State.reset_requestLaw⟩

theorem Effect.upholds {s t : State} {c : Instr} (h : Effect s c t) : s.Upholds t := by
  cases h
  case reset cause level _ =>
    obtain ⟨hevents, hrequests⟩ := s.hardwareReset_laws cause level
    exact ⟨fun _ => hevents, fun _ => hrequests⟩
  case loss => exact s.loseReference_upholds
  case watchdog => exact s.expireWatchdog_upholds
  case strobe watch order _ => exact s.strobe_upholds watch order
  case deferred => exact s.emitDeferred_upholds
  case enum f _ => exact s.onArrival_upholds fun t => .of_frame (by simp) (by simp)
  case service code f _ => exact s.onArrival_upholds fun t => t.takeService_upholds code f
  case arrival bytes _ => exact s.onArrival_upholds fun t => t.takeFrame_upholds bytes
  case early bytes _ => exact s.frameCompletedEarly_upholds bytes
  case cut bytes _ => exact (s.frameCompletedEarly_upholds bytes).trans (.of_frame rfl rfl)
  case returnTimeout => exact .of_frame (by simp) (by simp)
  all_goals exact .of_frame rfl rfl

/-- Settles O12: a tick leaves both blocks, and `Effect.upholds` is the two laws over a command. -/
theorem stepKeepsEventAndRequestLaw : Obligations.StepKeepsEventAndRequestLaw := by
  intro s t h
  unfold step at h
  split at h
  · cases h
    exact s.tick_upholds.laws
  case h_2 c rest _ => exact (effect_of_exec h).upholds.laws (s := s.setPending rest)

end Sys2Proof.Machine
end

section
/-! SUPPORT. Writes and bit commands that a part takes alone: the answer of the service engine, and the writes with an effect of their own
(R78, R89, R97, R98, R102, R168). -/

namespace Sys2Proof.Machine

/-! ### A command on a table that the part may write (R164) -/

/-- A write that passes every test (R164). -/
theorem State.writeAt_of_written {s after : State} {t : TableName} {index field v : Nat} (hindex : index < t.size)
    (hdefines : t.defines field = true) (hwrites : t.writes index field = true)
    (hlock : t.staged = true → s.plan.pendingActivation = none) (hw : s.writeField t index field v = some after) :
    s.writeAt t index field v = after.accept 0 := by
  have hfree : ¬ (t.staged = true ∧ s.stagingLocked = true) := fun ⟨hstaged, hlocked⟩ => by
    simp [stagingLocked, hlock hstaged] at hlocked
  simp [writeAt, Nat.not_le.mpr hindex, hdefines, hwrites, hfree, hw]

/-- A bit command that passes every test (R164, R168). -/
theorem State.bitsAt_of_bitWord {s : State} {t : TableName} {index field v : Nat} (hindex : index < t.size)
    (hword : t.bitWord field = true) (hlock : t.staged = true → s.plan.pendingActivation = none) (hv : v ≤ 255)
    (change : Vector Bool 8 → Nat → Vector Bool 8) (reply : Vector Bool 8 → Nat) :
    s.bitsAt t index field v change reply =
      (s.setBitLevels t index (change (s.bitLevels t index) v)).accept (reply (s.bitLevels t index)) := by
  have hfree : ¬ (t.staged = true ∧ s.stagingLocked = true) := fun ⟨hstaged, hlocked⟩ => by
    simp [stagingLocked, hlock hstaged] at hlocked
  simp [bitsAt, Nat.not_le.mpr hindex, hword, hfree, Nat.not_lt.mpr hv]

theorem State.onTable_of_code (s : State) {f : ServiceFrame} {t : TableName} (h : TableName.ofCode f.table.toNat = some t)
    (act : TableName → Answer) : s.onTable f act = act t := by
  simp only [onTable, h]

/-- No root-only table has a field that a WRITE or a bit command changes (R164, R172). -/
theorem TableName.rootOnly_of_writes {t : TableName} {index field : Nat} (h : t.writes index field = true) : t.rootOnly = false := by
  cases t
  case root | haltRecord | notice => cases h
  all_goals rfl

theorem TableName.rootOnly_of_bitWord {t : TableName} {field : Nat} (h : t.bitWord field = true) : t.rootOnly = false := by
  cases t
  case root | haltRecord | notice => cases h
  all_goals rfl

/-- A WRITE that passes every test, at a part that takes the frame alone: it answers OK with reply value 0 (R163, R166). -/
theorem State.TakesAlone.served_write {s after : State} {f : ServiceFrame} {t : TableName} (h : s.TakesAlone f)
    (ht : TableName.ofCode f.table.toNat = some t) (hindex : f.index.toNat < t.size) (hdefines : t.defines f.field.toNat = true)
    (hwrites : t.writes f.index.toNat f.field.toNat = true) (hlock : t.staged = true → s.plan.pendingActivation = none)
    (hw : s.received.writeField t f.index.toNat f.field.toNat f.value.toNat = some after) :
    s.serviceArrives 0x02 f = after.sent 0x02 (f.ok 0) := by
  have hmay : s.needsRoot .write f = false := by
    simp [needsRoot, commandTable, ht, CommandName.rootOnly, TableName.rootOnly_of_writes hwrites]
  refine h.served (c := .write) (.inr hmay) ?_
  rw [perform, serveWrite, onTable_of_code _ ht]
  exact writeAt_of_written hindex hdefines hwrites hlock hw

/-- The three bit commands on a writable bit word, at a part that takes the frame alone (R168). -/
theorem State.TakesAlone.exec_bits {s : State} {f : ServiceFrame} {t : TableName} (h : s.TakesAlone f)
    (ht : TableName.ofCode f.table.toNat = some t) (hindex : f.index.toNat < t.size) (hword : t.bitWord f.field.toNat = true)
    (hlock : t.staged = true → s.plan.pendingActivation = none) (hv : f.value.toNat ≤ 255) :
    let levels := s.received.bitLevels t f.index.toNat
    let changed := fun change : Vector Bool 8 → Nat → Vector Bool 8 =>
      s.received.setBitLevels t f.index.toNat (change levels f.value.toNat)
    exec (.setBits f) s = .next ((changed setBitsOf).sent 0x06 (f.ok 0)) ∧
      exec (.clearBits f) s = .next ((changed clearBitsOf).sent 0x07 (f.ok 0)) ∧
      exec (.testSet f) s = .next ((changed setBitsOf).sent 0x08 (f.ok (wordOf levels))) := by
  have hmay (c : CommandName) (hroot : c.rootOnly = false) (htable : s.commandTable c f = TableName.ofCode f.table.toNat) :
      s.needsRoot c f = false := by
    simp [needsRoot, hroot, htable, ht, TableName.rootOnly_of_bitWord hword]
  have hanswer (change : Vector Bool 8 → Nat → Vector Bool 8) (reply : Vector Bool 8 → Nat) :=
    (s.received.onTable_of_code ht fun t => s.received.bitsAt t f.index.toNat f.field.toNat f.value.toNat change reply).trans
      (bitsAt_of_bitWord (s := s.received) hindex hword hlock hv change reply)
  exact ⟨congrArg Host.Outcome.next (h.served (c := .setBits) (.inr (hmay .setBits rfl rfl)) (hanswer _ _)),
    congrArg Host.Outcome.next (h.served (c := .clearBits) (.inr (hmay .clearBits rfl rfl)) (hanswer _ _)),
    congrArg Host.Outcome.next (h.served (c := .testSet) (.inr (hmay .testSet rfl rfl)) (hanswer _ _))⟩

/-! ### Bit commands (R89, R168) -/

theorem setBitsOf_toNat {n w : Nat} (levels : Vector Bool n) (v : BitVec w) :
    setBitsOf levels v.toNat = tabulate fun k : Fin n => levels[k] || v.getLsbD k.val := by
  simp only [setBitsOf, BitVec.testBit_toNat]

theorem clearBitsOf_toNat {n w : Nat} (levels : Vector Bool n) (v : BitVec w) :
    clearBitsOf levels v.toNat = tabulate fun k : Fin n => levels[k] && !v.getLsbD k.val := by
  simp only [clearBitsOf, BitVec.testBit_toNat]

theorem State.bitLevels_cellStaged (s : State) (i : Fin 16) :
    s.bitLevels .cellStaged i = (s.plan.staged.cells[i]).truth := dif_pos i.isLt

theorem State.setBitLevels_cellStaged (s : State) (i : Fin 16) (levels : Vector Bool 8) :
    s.setBitLevels .cellStaged i levels =
      s.setPlan { s.plan with staged := { s.plan.staged with
        cells := s.plan.staged.cells.set i { s.plan.staged.cells[i] with truth := levels } } } := dif_pos i.isLt

/-- Settles O54: `exec_bits` on the gate word and on the truth-table word of a staged cell. -/
theorem bitCommands : Obligations.BitCommands := by
  refine fun s f hf hv => ⟨fun htable hindex hfield => ?_, fun i htable hindex hfield hfree => ?_⟩
  · have hbits := hf.exec_bits (t := .gate) (by rw [htable]; rfl) (by rw [hindex]; decide) (by rw [hfield]; rfl) (fun h => nomatch h) hv
    simp only [setBitsOf_toNat, clearBitsOf_toNat] at hbits
    exact hbits
  · have hbits := hf.exec_bits (t := .cellStaged) (by rw [htable]; rfl) (by rw [hindex]; exact i.isLt) (by rw [hfield]; rfl)
      (fun _ => hfree) hv
    simp only [hindex, setBitsOf_toNat, clearBitsOf_toNat, State.setBitLevels_cellStaged, State.bitLevels_cellStaged] at hbits
    exact hbits

/-! ### Writes with an effect of their own (R78, R89, R97, R98, R102) -/

theorem State.writeField_event (s : State) (i : Fin 32) (field v : Nat) :
    s.writeField .event i field v =
      ((s.events.entries[i]).write field v).map fun e =>
        s.setEvents { s.events with entries := s.events.entries.set i e } := dif_pos i.isLt

theorem within_of_le {high v : Nat} (h : v ≤ high) : within 0 high v = some v := if_pos ⟨Nat.zero_le v, h⟩

theorem indexBelow_val {n : Nat} (v : Fin n) : indexBelow n v.val = some v := dif_pos v.isLt

theorem choose_bool_of_le {v : BitVec 32} (h : v.toNat ≤ 1) : choose v.toNat false true = some (v == 1) := by
  obtain h0 | h1 : v = 0 ∨ v = 1 := by bv_omega
  · subst h0; rfl
  · subst h1; rfl

theorem kindOfCode_kindCode (kind : Option Kind) : kindOfCode (kindCode kind) = some kind := by
  rcases kind with _ | _ | _ | _ <;> rfl

/-- The fields of a source that a WRITE sets: both settings, and the kind of sources 32 and 34 (R97). -/
theorem TableName.writes_source {i : Fin 36} (hring : i ≠ 33) (hlate : i ≠ 35) {field : Nat} (h : field ≠ 2 ∨ 32 ≤ i.val) :
    TableName.source.writes i field = true := by
  have h33 : i.val ≠ 33 := fun he => hring (Fin.ext he)
  have h35 : i.val ≠ 35 := fun he => hlate (Fin.ext he)
  simpa [writes, h33, h35] using h

/-- A write of a source's field that the request unit takes, at a part that takes the frame alone. -/
theorem State.TakesAlone.exec_sourceWrite {s : State} {f : ServiceFrame} {i : Fin 36} {u : RequestUnit} (h : s.TakesAlone f)
    (hindex : f.index.toNat = i.val) (hring : i ≠ 33) (hlate : i ≠ 35) (hfield : f.field.toNat ≤ 2)
    (hkind : f.field.toNat ≠ 2 ∨ 32 ≤ i.val) (hw : s.requests.write i f.field.toNat f.value.toNat = some u) :
    exec (.sourceWrite f) s =
      .next ((s.received.setRequests u).sent 0x02 (({ f with table := 0x09 } : ServiceFrame).ok 0)) := by
  refine congrArg Host.Outcome.next (State.TakesAlone.served_write (f := { f with table := 0x09 }) (t := .source) h rfl ?_ ?_ ?_
    (fun h => nomatch h) ?_)
  · rw [hindex]; exact i.isLt
  · exact decide_eq_true hfield
  · rw [hindex]; exact TableName.writes_source hring hlate hkind
  · rw [hindex, State.writeField_source]
    exact Option.map_eq_some_iff.mpr ⟨u, hw, rfl⟩

/-- Settles O53: `served_write` with the value that each field takes. -/
theorem writesWithEffect : Obligations.WritesWithEffect := by
  refine ⟨fun s f i hf hindex hv => ?_, fun s f i hf hindex hring hlate =>
    ⟨fun v hfield hv => ?_, fun hfield hv => ?_, fun kind hfield hv => ?_⟩,
    fun s f v hf hindex hfield hv => ?_, fun s f hf hindex hfield hv => ⟨levelsOf 8 f.value.toNat, fun g => ?_, ?_⟩⟩
  · refine congrArg Host.Outcome.next (State.TakesAlone.served_write (f := { f with table := 0x08, field := 0x0A }) (t := .event) hf
      rfl ?_ rfl rfl (fun h => nomatch h) ?_)
    · rw [hindex]; exact i.isLt
    · rw [hindex, State.writeField_event]
      exact Option.map_eq_some_iff.mpr ⟨_, congrArg (Option.map _) (within_of_le hv), rfl⟩
  · refine hf.exec_sourceWrite hindex hring hlate (by rw [hfield]; decide) (by rw [hfield]; exact .inl (by decide)) ?_
    rw [hfield, hv]
    exact congrArg (Option.map _) (indexBelow_val v)
  · refine hf.exec_sourceWrite hindex hring hlate (by rw [hfield]; decide) (by rw [hfield]; exact .inl (by decide)) ?_
    rw [hfield]
    exact congrArg (Option.map _) (choose_bool_of_le hv)
  · have hcode : f.value.toNat = kindCode kind := hv
    have hwritten (i : Fin 36) : s.requests.write i f.field.toNat f.value.toNat =
        some (if i = 32 then { s.requests with underrunKind := kind } else { s.requests with clampKind := kind }) := by
      rw [hfield, hcode]
      exact congrArg (Option.map _) (kindOfCode_kindCode kind)
    refine ⟨fun hi => ?_, fun hi => ?_⟩ <;> subst hi
    all_goals exact hf.exec_sourceWrite hindex hring hlate (by rw [hfield]; decide) (.inr (by decide)) (hwritten _)
  · refine congrArg Host.Outcome.next (State.TakesAlone.served_write (f := { f with table := 0x0B }) (t := .mask) hf rfl ?_ ?_ rfl
      (fun h => nomatch h) ?_)
    · simp [hindex, TableName.size]
    · simp [hfield, TableName.defines]
    · rw [hv]
      exact congrArg (Option.map _) (indexBelow_val v)
  · simp [levelsOf, BitVec.testBit_toNat]
  · refine congrArg Host.Outcome.next (State.TakesAlone.served_write (f := { f with table := 0x0A }) (t := .gate) hf rfl ?_ ?_ rfl
      (fun h => nomatch h) ?_)
    · simp [hindex, TableName.size]
    · simp [hfield, TableName.defines]
    · exact congrArg (Option.map _) (within_of_le hv)

end Sys2Proof.Machine
end

section
/-! SUPPORT. The outcomes of a raise and the re-tests at a write (R98 to R100, R102). -/

namespace Sys2Proof.Machine

/-! ### Raises (R98 to R100) -/

/-- The heavier of two kinds (R100). -/
theorem Kind.heavier_spec (p k : Kind) :
    (p = .brk ∨ k = .brk → p.heavier k = .brk) ∧
      (p ≠ .brk → k ≠ .brk → p = .pause ∨ k = .pause → p.heavier k = .pause) ∧
      (p = .mark → k = .mark → p.heavier k = .mark) := by
  cases p <;> cases k <;> simp [heavier]

namespace RequestUnit

theorem qualifies_iff (u : RequestUnit) (i : Fin 36) :
    u.qualifies i = true ↔
      (u.settings[i]).level = 3 ∨ (u.settings[i]).enable = true ∧ u.mask ≤ (u.settings[i]).level := by
  simp [qualifies]

end RequestUnit

/-- Settles O30: `Kind.heavier_spec`, `qualifies_iff`, and the three outcomes of `raise`. -/
theorem raiseOutcomes : Obligations.RaiseOutcomes :=
  ⟨Kind.heavier_spec, fun u i k cause =>
    ⟨u.raise_none i cause, u.qualifies_iff i, fun h => RequestUnit.raise_of_not_qualifies h k cause,
      fun h hw => RequestUnit.raise_of_waiting_none h hw k cause,
      fun _ h hw => RequestUnit.raise_of_waiting_some h hw k cause⟩⟩

/-! ### Re-tests (R102) -/

namespace RequestUnit

/-- A re-test counts a removal, and nothing else (R102). -/
theorem retest_counts (u : RequestUnit) (i : Fin 36) (level : PendingRequest → Nat) :
    let v := u.retest i level
    v.droppedCount = u.droppedCount ∧ v.mergedCount = u.mergedCount ∧ v.placedCount = u.placedCount ∧
      v.cancelCount = if (u.waiting[i]).isSome && !u.qualifies i then raiseCount u.cancelCount 1 else u.cancelCount := by
  cases hw : u.waiting[i] <;> cases hq : u.qualifies i <;> simp_all [retest]

section retestEach

variable (l : List (Fin 36)) (u : RequestUnit)

/-- Every record of the list re-tested at its own level (R102). -/
def retestEach : RequestUnit := l.foldl (fun v source => v.retest source fun p => p.level) u

theorem writeMask_eq (mask : Fin 4) : u.writeMask mask = retestEach (List.finRange 36) { u with mask } := rfl

theorem retestEach_concat (i : Fin 36) : retestEach (l ++ [i]) u = (retestEach l u).retest i fun p => p.level := by
  simp [retestEach]

theorem retestEach_qualifies (i : Fin 36) : (retestEach l u).qualifies i = u.qualifies i := by
  obtain ⟨hsettings, hmask⟩ := foldl_retest_tables l u
  exact qualifies_congr (by rw [retestEach, hsettings]) hmask

theorem retestEach_waiting_of_notMem {i : Fin 36} (h : i ∉ l) : (retestEach l u).waiting[i] = u.waiting[i] := by
  rw [retestEach, foldl_retest_waiting, if_neg fun hi => h hi.1]

/-- Re-tests of different sources are counted as if each found the request unit as it was before them all. -/
theorem retestEach_counts (hl : l.Nodup) :
    let v := retestEach l u
    v.droppedCount = u.droppedCount ∧ v.mergedCount = u.mergedCount ∧ v.placedCount = u.placedCount ∧
      v.cancelCount = countedUp u.cancelCount (l.filter fun i => (u.waiting[i]).isSome && !u.qualifies i).length := by
  induction l using List.reverseRecOn with
  | nil => exact ⟨rfl, rfl, rfl, rfl⟩
  | append_singleton l k ih =>
    obtain ⟨hk, hnodup⟩ := (List.nodup_concat l k).mp (by rwa [List.concat_eq_append])
    obtain ⟨hdropped, hmerged, hplaced, hcancel⟩ := ih hnodup
    have hlast := (retestEach l u).retest_counts k fun p => p.level
    rw [retestEach_qualifies, retestEach_waiting_of_notMem l u hk, hdropped, hmerged, hplaced, hcancel] at hlast
    rw [retestEach_concat, countedUp_filter_concat]
    exact hlast

end retestEach

/-- The re-test of a pending record: kept at its new level, or removed and counted (R102). -/
theorem retest_record {u : RequestUnit} {i : Fin 36} {p : PendingRequest} (hp : u.waiting[i] = some p)
    (level : PendingRequest → Nat) :
    let v := u.retest i level
    (u.qualifies i = true → v.waiting[i] = some { p with level := level p } ∧ v.cancelCount = u.cancelCount) ∧
      (¬ u.qualifies i = true → v.waiting[i] = none ∧ v.cancelCount = min (u.cancelCount + 1) 65535) := by
  obtain ⟨-, -, -, hcancel⟩ := u.retest_counts i level
  have hwaiting := u.retest_waiting i i level
  refine ⟨fun hq => ?_, fun hq => ?_⟩
  · exact ⟨by simpa [hq, hp] using hwaiting, by simpa [hq] using hcancel⟩
  · exact ⟨by simpa [hq] using hwaiting, by simpa [hq, hp, raiseCount] using hcancel⟩

/-- The request unit with one source's setting replaced, before the re-test (R97). -/
def withSetting (u : RequestUnit) (i : Fin 36) (setting : SourceSetting) : RequestUnit :=
  { u with settings := u.settings.set i setting }

/-- A written source qualifies by its new setting (R98). -/
theorem withSetting_qualifies_iff (u : RequestUnit) (i : Fin 36) (setting : SourceSetting) :
    (u.withSetting i setting).qualifies i = true ↔ setting.level = 3 ∨ setting.enable = true ∧ u.mask ≤ setting.level := by
  simp [qualifies_iff, withSetting]

/-- A setting written at one source, with the re-test of this source, leaves every other source (R102). -/
theorem withSetting_retest_settings (u : RequestUnit) (i : Fin 36) (setting : SourceSetting) (level : PendingRequest → Nat) :
    let v := (u.withSetting i setting).retest i level
    (∀ j : Fin 36, j ≠ i → v.waiting[j] = u.waiting[j] ∧ v.settings[j] = u.settings[j]) ∧ v.settings[i] = setting := by
  obtain ⟨hsettings, -⟩ := (u.withSetting i setting).retest_tables i level
  refine ⟨fun j hj => ⟨?_, ?_⟩, ?_⟩
  · exact (retest_waiting _ i j level).trans (if_neg hj)
  · exact (congrArg (·[j]) hsettings).trans (Vector.getElem_set_ne i.isLt j.isLt fun he => hj (Fin.ext he.symm))
  · exact (congrArg (·[i]) hsettings).trans (Vector.getElem_set_self i.isLt)

/-- The record of a written source stays, at its new level, if the new setting qualifies; else it is removed and counted (R98, R102). -/
theorem withSetting_retest_record {u : RequestUnit} {i : Fin 36} {p : PendingRequest} (hp : u.waiting[i] = some p)
    (setting : SourceSetting) (level : PendingRequest → Nat) :
    let v := (u.withSetting i setting).retest i level
    let qualifies := setting.level = 3 ∨ setting.enable = true ∧ u.mask ≤ setting.level
    (qualifies → v.waiting[i] = some { p with level := level p } ∧ v.cancelCount = u.cancelCount) ∧
      (¬ qualifies → v.waiting[i] = none ∧ v.cancelCount = min (u.cancelCount + 1) 65535) := by
  dsimp only
  rw [← withSetting_qualifies_iff u i]
  exact retest_record (u := u.withSetting i setting) hp level

end RequestUnit

/-- Settles O31: `retestEach` over the 36 sources, and `set_retest_spec` for the enable and the level. -/
theorem writesRetestPending : Obligations.WritesRetestPending := by
  refine ⟨fun u mask => ?_, fun u source enable level => ?_⟩
  · obtain ⟨hdropped, hmerged, hplaced, hcancel⟩ :=
      RequestUnit.retestEach_counts (List.finRange 36) { u with mask } (List.nodup_finRange 36)
    refine ⟨u.writeMask_mask mask, u.writeMask_settings mask, hdropped, hmerged, hplaced, u.writeMask_waiting mask, ?_⟩
    rw [RequestUnit.writeMask_eq, hcancel]
    simp [RequestUnit.countedUp]
  · let byEnable := { u.settings[source] with enable }
    let byLevel := { u.settings[source] with level }
    obtain ⟨hothers, hset⟩ := u.withSetting_retest_settings source byEnable fun p => p.level
    obtain ⟨hothers', hset'⟩ := u.withSetting_retest_settings source byLevel fun _ => level.val
    refine ⟨fun j hj => ?_, hset, hset', fun p hp => ?_⟩
    · obtain ⟨hwaiting, hsettings⟩ := hothers j hj
      obtain ⟨hwaiting', hsettings'⟩ := hothers' j hj
      exact ⟨hwaiting, hwaiting', hsettings, hsettings'⟩
    · obtain ⟨hkept, hremoved⟩ := RequestUnit.withSetting_retest_record hp byEnable fun p => p.level
      obtain ⟨hkept', hremoved'⟩ := RequestUnit.withSetting_retest_record hp byLevel fun _ => level.val
      exact ⟨hkept, hremoved, hkept', hremoved'⟩

end Sys2Proof.Machine
end

section
/-! SUPPORT. The best pending record (R104) and its placement in a slot at a follower (R103). -/

namespace Sys2Proof.Machine

namespace RequestUnit

variable {u : RequestUnit} {i b : Fin 36} {p q : PendingRequest}

/-! ### The best record (R104) -/

theorem betterRequest_of_none (h : u.waiting[i] = none) (best : Option (Fin 36 × PendingRequest)) :
    betterRequest u best i = best := by
  simp only [betterRequest, h]

theorem betterRequest_first (h : u.waiting[i] = some p) : betterRequest u none i = some (i, p) := by
  simp only [betterRequest, h]

theorem betterRequest_of_lt (h : u.waiting[i] = some p) (hlt : q.level < p.level) :
    betterRequest u (some (b, q)) i = some (i, p) := by
  simp only [betterRequest, h, if_pos hlt]

theorem betterRequest_of_not_lt (h : u.waiting[i] = some p) (hle : ¬ q.level < p.level) :
    betterRequest u (some (b, q)) i = some (b, q) := by
  simp only [betterRequest, h, if_neg hle]

/-- Record `p` of source `b` is pending, and of the sources of `l` none has a record of a higher level, and none below `b` one of the
same level (R104). -/
def Leads (u : RequestUnit) (l : List (Fin 36)) (b : Fin 36) (p : PendingRequest) : Prop :=
  u.waiting[b] = some p ∧
    ∀ j ∈ l, ∀ q : PendingRequest, u.waiting[j] = some q → q.level < p.level ∨ q.level = p.level ∧ b ≤ j

theorem Leads.concat {l : List (Fin 36)} (h : u.Leads l b p)
    (hi : ∀ q : PendingRequest, u.waiting[i] = some q → q.level < p.level ∨ q.level = p.level ∧ b ≤ i) :
    u.Leads (l ++ [i]) b p :=
  ⟨h.1, List.forall_mem_append.mpr ⟨h.2, List.forall_mem_singleton.mpr hi⟩⟩

/-- What the comparison of the sources of `l` in their order leaves as the best. -/
def LeftBy (u : RequestUnit) (l : List (Fin 36)) : Option (Fin 36 × PendingRequest) → Prop
  | none => ∀ j ∈ l, u.waiting[j] = none
  | some (b, p) => b ∈ l ∧ u.Leads l b p

/-- One more source, above all of `l`, compared with the best of `l`: it takes the lead with a strictly higher level only. -/
theorem LeftBy.concat {l : List (Fin 36)} {best : Option (Fin 36 × PendingRequest)} (h : u.LeftBy l best)
    (habove : ∀ j ∈ l, j < i) : u.LeftBy (l ++ [i]) (betterRequest u best i) := by
  have hmem : i ∈ l ++ [i] := List.mem_append_right l (List.mem_singleton_self i)
  cases hw : u.waiting[i] with
  | none =>
    rw [betterRequest_of_none hw]
    match best, h with
    | none, hnone => exact List.forall_mem_append.mpr ⟨hnone, List.forall_mem_singleton.mpr hw⟩
    | some (b, p), ⟨hb, hleads⟩ =>
      exact ⟨List.mem_append_left _ hb, hleads.concat fun q hq => nomatch hw.symm.trans hq⟩
  | some p =>
    have hself (q : PendingRequest) (hq : u.waiting[i] = some q) : q.level < p.level ∨ q.level = p.level ∧ i ≤ i := by
      rw [Option.some.inj (hw.symm.trans hq)]
      exact .inr ⟨rfl, le_rfl⟩
    match best, h with
    | none, hnone =>
      rw [betterRequest_first hw]
      exact ⟨hmem, .concat ⟨hw, fun j hj q hq => nomatch (hnone j hj).symm.trans hq⟩ hself⟩
    | some (b, q), ⟨hb, hleads⟩ =>
      by_cases hlt : q.level < p.level
      · rw [betterRequest_of_lt hw hlt]
        refine ⟨hmem, .concat ⟨hw, fun j hj r hr => ?_⟩ hself⟩
        have := hleads.2 j hj r hr
        omega
      · rw [betterRequest_of_not_lt hw hlt]
        refine ⟨List.mem_append_left _ hb, hleads.concat fun r hr => ?_⟩
        have hbi := habove b hb
        have := hself r hr
        omega

theorem foldl_betterRequest_leftBy {l : List (Fin 36)} (hl : l.Pairwise (· < ·)) :
    u.LeftBy l (l.foldl (betterRequest u) none) := by
  induction l using List.reverseRecOn with
  | nil => simp [LeftBy]
  | append_singleton l i ih =>
    obtain ⟨hpairs, -, habove⟩ := List.pairwise_append.mp hl
    rw [List.foldl_concat]
    exact (ih hpairs).concat fun j hj => habove j hj i (by simp)

theorem best_leftBy (u : RequestUnit) : u.LeftBy (List.finRange 36) u.best :=
  foldl_betterRequest_leftBy (List.pairwise_lt_finRange 36)

theorem best_eq_none_iff (u : RequestUnit) : u.best = none ↔ ∀ i : Fin 36, u.waiting[i] = none := by
  refine ⟨fun h i => ?_, best_eq_none⟩
  have hleft := u.best_leftBy
  rw [h] at hleft
  exact hleft i (List.mem_finRange i)

/-- Two records that both lead all sources are one. -/
theorem Leads.unique {c : Fin 36} (hb : u.Leads (List.finRange 36) b p) (hc : u.Leads (List.finRange 36) c q) :
    (b, p) = (c, q) := by
  obtain ⟨hp, hbleads⟩ := hb
  obtain ⟨hq, hcleads⟩ := hc
  have hbc := hbleads c (List.mem_finRange c) q hq
  have hcb := hcleads b (List.mem_finRange b) p hp
  obtain rfl : b = c := by omega
  rw [Option.some.inj (hp.symm.trans hq)]

/-- The best record is the one of the highest level, and among those of the lowest source code (R104). -/
theorem best_eq_some_iff (u : RequestUnit) (b : Fin 36) (p : PendingRequest) :
    u.best = some (b, p) ↔ u.Leads (List.finRange 36) b p := by
  have hleft := u.best_leftBy
  refine ⟨fun h => ?_, fun hp => ?_⟩
  · rw [h] at hleft
    exact hleft.2
  · cases hbest : u.best with
    | none =>
      have hnone := u.best_eq_none_iff.mp hbest b
      simp [hp.1] at hnone
    | some best =>
      rw [hbest] at hleft
      exact congrArg some (hleft.2.unique hp)

end RequestUnit

/-! ### Placement (R103) -/

/-- A frame with every slot occupied has no empty one. -/
theorem firstEmptySlot_of_occupied {bytes : List Byte} (h : ∀ k : Fin 4, slotOccupied (slotBytes bytes k.val) = true) :
    firstEmptySlot bytes = none := by
  have hslots : ∀ k ∈ [0, 1, 2, 3], slotOccupied (slotBytes bytes k) = true := fun k hk => h ⟨k, by simp at hk; omega⟩
  simp [firstEmptySlot, hslots]

namespace State

variable {s : State} {bytes : List Byte}

/-- Without a position, an empty slot or a pending record the frame and the pending set pass as they are (R103). -/
theorem placeRequest_of_absent (h : s.handler.position = none ∨ firstEmptySlot bytes = none ∨ s.requests.best = none) :
    s.placeRequest bytes = (s, bytes) := by
  unfold placeRequest
  split
  · simp_all
  · rfl

/-- With a position, an empty slot and a pending record, the record is placed at a numbered part whose position the frame does not
carry yet (R103). -/
theorem placeRequest_of_present {position : Fin 63} {slot : Nat} {source : Fin 36} {p : PendingRequest}
    (hposition : s.handler.position = some position) (hslot : firstEmptySlot bytes = some slot)
    (hbest : s.requests.best = some (source, p)) :
    s.placeRequest bytes =
      if s.seq.runState.numbered ∧ carriesPosition bytes position.val = false then
        (s.setRequests (s.requests.release source), writeSlot bytes slot (p.placed source.val position.val))
      else (s, bytes) := by
  simp only [placeRequest, hposition, hslot, hbest]

theorem placeRequest_of_not_numbered (h : s.seq.runState.numbered = false) : s.placeRequest bytes = (s, bytes) := by
  unfold placeRequest
  split
  · simp [h]
  · rfl

end State

/-- Settles O40: `best_eq_some_iff`, and the branches of `placeRequest`. -/
theorem bestRequestIsPlaced : Obligations.BestRequestIsPlaced := by
  refine ⟨fun u => ⟨u.best_eq_none_iff, fun source p => ?_⟩, fun s bytes h => ?_,
    fun s bytes position slot source p hposition hnumbered hslot hbest => ⟨fun hcarries => ?_, fun hcarries => ?_⟩⟩
  · rw [u.best_eq_some_iff]
    simp [RequestUnit.Leads]
  · obtain h | h | h | h := h
    · exact State.placeRequest_of_absent (.inl h)
    · exact State.placeRequest_of_not_numbered h
    · exact State.placeRequest_of_absent (.inr (.inl (firstEmptySlot_of_occupied h)))
    · exact State.placeRequest_of_none h bytes
  · rw [State.placeRequest_of_present hposition hslot hbest, if_neg (by simp [hcarries])]
  · rw [State.placeRequest_of_present hposition hslot hbest, if_pos ⟨hnumbered, hcarries⟩]
    rfl

end Sys2Proof.Machine
end

section
/-! SUPPORT. One emission, step by step (R132): the root's own request, the grant, its tests, and the frame composed (R131), listed and
handed on (R133). -/

namespace Sys2Proof.Machine

namespace State

variable {s u : State}

/-- Step 1 of R132 is a function of the state (R106). -/
theorem OwnRequestTaken.eq (h : s.OwnRequestTaken u) : u = s.takeOwnRequest := by
  obtain ⟨hnone, hsome⟩ := h
  unfold takeOwnRequest
  split
  case h_1 hbest => exact hnone hbest
  case h_2 source p hbest => exact hsome source p hbest

/-! ### The steps of R132 after the first -/

theorem emit_of_not_run (h : s.takeOwnRequest.seq.runState ≠ .run) : s.emit = s.takeOwnRequest.sendBeat := by
  simp [emit, h]

theorem emit_of_run (h : s.takeOwnRequest.seq.runState = .run) : s.emit = s.takeOwnRequest.raiseGrant.testGrant.sendBeat := by
  have hraised : s.takeOwnRequest.raiseGrant.seq.runState = .run := h
  simp only [emit, h, hraised, if_true]

/-- The candidate grant is the lead, under one cap: the target, if there is one, and 2^48−1 (R132). -/
theorem candidateGrant_eq {cap : Nat} (hfree : u.root.target = none → cap = maxStep)
    (htarget : ∀ T, u.root.target = some T → cap = min T maxStep) :
    u.candidateGrant = min (u.seq.step + u.plan.live.header.lead) cap := by
  unfold candidateGrant
  cases h : u.root.target with
  | none => rw [hfree h]
  | some T => rw [htarget T h, ← min_assoc]

/-- The root with its grant, and the sequencer's, raised to a value (R132). -/
def granted (u : State) (grant : Nat) : State :=
  (u.setRoot { u.root with rootGrant := grant }).setSeq { u.seq with grant }

theorem raiseGrant_eq (u : State) : u.raiseGrant = u.granted (max u.root.rootGrant u.candidateGrant) := rfl

theorem testGrant_of_below (htarget : s.root.target ≠ some s.root.rootGrant) (hend : s.root.rootGrant ≠ maxStep) :
    s.testGrant = s := by
  simp [testGrant, htarget, hend]

theorem testGrant_at_target (htarget : s.root.target = some s.root.rootGrant) :
    s.testGrant = s.decideHalt (localCause 41 .pause s.root.rootGrant) := by
  simp [testGrant, htarget]

theorem testGrant_at_end (htarget : s.root.target ≠ some s.root.rootGrant) (hend : s.root.rootGrant = maxStep) :
    s.testGrant = s.decideHalt (localCause 45 .pause s.root.rootGrant) := by
  rw [testGrant, if_neg htarget, if_pos hend, hend]

/-- A PAUSE cause of the root's own in RUN decides the halt (R138, R139). -/
theorem processRecord_localPause (h : s.seq.runState = .run) (code causeStep : Nat) :
    s.processRecord (localCause code .pause causeStep) = s.decideHalt (localCause code .pause causeStep) := by
  simp only [processRecord, localCause, h]

/-! ### The frame (R131, R133) -/

theorem sendBeat_eq (s : State) : s.sendBeat = s.emitted s.composeBeat := rfl

theorem composeBeat_of_halt (h : s.seq.runState = .halting ∨ s.seq.runState = .halted ∨ s.seq.runState = .broken) {f : Nat}
    (hf : s.seq.haltStep = some f) :
    s.composeBeat = s.rootFrame .halt s.seq.haltKind f f (decide (s.seq.step = f)) := by
  obtain h | h | h := h
  all_goals
    simp only [composeBeat, h, hf]
    rfl

theorem composeBeat_of_run (h : s.seq.runState = .run) :
    s.composeBeat = s.rootFrame .run .pause s.root.rootGrant 0 false := by
  simp only [composeBeat, h]
  rfl

theorem composeBeat_of_still (h : s.seq.runState = .ready ∨ s.seq.runState = .stranded) :
    s.composeBeat = s.rootFrame .ready .pause s.root.rootGrant 0 false := by
  obtain h | h := h
  all_goals
    simp only [composeBeat, h]
    rfl

/-- The frame of a root that has just decided a halt by a cause of its own is a HALT frame (R131, R139). -/
theorem sendBeat_decideHalt (s : State) (code causeStep : Nat) :
    let t := s.decideHalt (localCause code .pause causeStep)
    t.sendBeat = t.emitted (t.rootFrame .halt .pause s.root.rootGrant s.root.rootGrant (decide (s.seq.step = s.root.rootGrant))) := by
  intro t
  rw [sendBeat_eq, composeBeat_of_halt (s := t) (.inl rfl) rfl]
  rfl

end State

/-- Settles O43: `emit_of_not_run` with the frame of each run state. -/
theorem emissionOutsideRun : Obligations.EmissionOutsideRun := by
  intro s u hu hrun
  obtain rfl := hu.eq
  rw [State.emit_of_not_run hrun, State.sendBeat_eq]
  exact ⟨fun h f hf => by rw [State.composeBeat_of_halt h hf], fun h => by rw [State.composeBeat_of_still h]⟩

/-- Settles O44: `emit_of_run`, and the three outcomes of `testGrant` at the grant raised. -/
theorem emissionRaisesGrant : Obligations.EmissionRaisesGrant := by
  intro s u hu hrun lead cap hfree htarget grant v halted
  obtain rfl := hu.eq
  have hv : s.takeOwnRequest.raiseGrant = v := by
    rw [State.raiseGrant_eq, State.candidateGrant_eq hfree htarget]
    rfl
  have hdecided (code : Nat) : halted code = v.decideHalt (localCause code .pause grant) :=
    State.processRecord_localPause (s := v) hrun code grant
  rw [State.emit_of_run hrun, hv]
  refine ⟨fun hne hend => ?_, fun heq => ?_, fun hne hend => ?_⟩
  · rw [State.testGrant_of_below (s := v) hne hend, State.sendBeat_eq, State.composeBeat_of_run (s := v) hrun]
    rfl
  · rw [State.testGrant_at_target (s := v) heq, hdecided]
    exact v.sendBeat_decideHalt 41 grant
  · rw [State.testGrant_at_end (s := v) hne hend, hdecided]
    exact v.sendBeat_decideHalt 45 grant

end Sys2Proof.Machine
end

section
/-! SUPPORT. The tables and their fields (R164, R172 to R175), and what refuses a command, test by test (R163 to R168). -/

namespace Sys2Proof.Machine

/-! ### Tables (R164, R172 to R175) -/

namespace TableName

theorem ofCode_of_ge {n : Nat} (h : 16 ≤ n) : ofCode n = none := by
  unfold ofCode
  split
  case h_17 => rfl
  all_goals omega

theorem staged_iff (t : TableName) : t.staged = true ↔ t ∈ [trackStaged, laneStaged, cellStaged, headerStaged] := by
  cases t <;> decide

theorem rootOnly_iff (t : TableName) : t.rootOnly = true ↔ t ∈ [root, haltRecord, notice] := by
  cases t <;> decide

/-- The root-only tables are the three of the highest codes (R164). -/
theorem rootOnly_of_code {t : TableName} (h : 13 ≤ t.code) : t.rootOnly = true := by
  cases t
  case root | haltRecord | notice => rfl
  all_goals simp [code] at h

theorem code_eq_of_ofCode {n : Nat} {t : TableName} (h : ofCode n = some t) : t.code = n := by
  unfold ofCode at h
  split at h <;> cases h <;> rfl

theorem ofCode_isSome {n : Nat} (h : n < 16) : ∃ t, ofCode n = some t := by
  interval_cases n <;> exact ⟨_, rfl⟩

/-- Every defined field of a staged table, GATE and MASK is written (R172, R174). -/
theorem writes_of_free : ∀ t ∈ [trackStaged, laneStaged, cellStaged, headerStaged, gate, mask], ∀ index field,
    t.writes index field = true := by
  simp [writes]

/-- Every staged field is writable (R172). -/
theorem writes_of_staged {t : TableName} (h : t.staged = true) (index field : Nat) : t.writes index field = true :=
  writes_of_free t (List.mem_append_left [gate, mask] ((staged_iff t).mp h)) index field

/-- No field of the live tables and of the part's and the root's own is written (R172, R175). -/
theorem writes_of_fixed : ∀ t ∈ [trackLive, laneLive, cellLive, headerLive, part, root, haltRecord, notice], ∀ index field,
    t.writes index field = false := by
  simp [writes]

/-- No field of sources 33 and 35 is written, and the kind of sources 32 and 34 only (R97). -/
theorem writes_source_iff (index field : Nat) :
    source.writes index field = true ↔ index ≠ 33 ∧ index ≠ 35 ∧ (field = 2 → 32 ≤ index) := by
  simp [writes, and_assoc, imp_iff_not_or]

/-- The two writable bit words (R168). -/
theorem bitWord_iff (t : TableName) (field : BitVec 8) :
    t.bitWord field.toNat = true ↔ t = gate ∧ field = 0 ∨ t = cellStaged ∧ field = 3 := by
  simp [bitWord, BitVec.toNat_eq]

/-- The word fields that no command changes (R168). -/
theorem readOnlyWord_iff (t : TableName) (field : Nat) :
    t.readOnlyWord field = true ↔
      (t, field) ∈ [(part, 13), (part, 20), (part, 21), (root, 14), (cellLive, 3), (laneLive, 17)] := by
  cases t <;> simp [readOnlyWord, or_assoc]

theorem bitWord_of_readOnlyWord {t : TableName} {field : Nat} (h : t.readOnlyWord field = true) : t.bitWord field = false := by
  cases t
  case gate | cellStaged => cases h
  all_goals rfl

end TableName

/-! ### Commands by their codes (R166) -/

namespace CommandName

theorem ofCode_code (c : CommandName) : ofCode c.code.toNat = some c := by cases c <;> rfl

theorem code_of_ofCode {code : BitVec 8} {c : CommandName} (h : ofCode code.toNat = some c) : code = c.code := by
  unfold ofCode at h
  split at h <;> cases h <;> exact BitVec.eq_of_toNat_eq ‹_›

theorem assignedCode_code (c : CommandName) : assignedCode c.code = true := by cases c <;> rfl

theorem ofCode_of_unassigned {code : BitVec 8} (h : assignedCode code = false) : ofCode code.toNat = none := by
  cases hc : ofCode code.toNat with
  | none => rfl
  | some c => simp [code_of_ofCode hc, assignedCode_code] at h

theorem code_of_broadcasts {c : CommandName} (h : c.broadcasts = true) : c.code.toNat ∈ [2, 3, 5, 6, 7, 9, 11] := by
  cases c
  case write | cursor | writeNext | setBits | clearBits | copyLive | resetPart => decide
  all_goals cases h

/-- The codes of the commands that are root-only whatever their table (R164). -/
theorem ofCode_rootOnly {n : Nat} (h : n = 10 ∨ 16 ≤ n ∧ n ≤ 22) : ∃ c, ofCode n = some c ∧ c.rootOnly = true := by
  have hcodes : ∀ n < 23, n = 10 ∨ 16 ≤ n → (ofCode n).any rootOnly = true := by decide
  exact (Option.any_eq_true _ _).mp (hcodes n (by omega) (by omega))

/-- The commands that act on the frame's table (R164). -/
def onTables : List CommandName := [read, write, cursor, setBits, clearBits, testSet]

/-- The commands that act on the cursor's table (R164). -/
def onCursor : List CommandName := [readNext, writeNext]

theorem ofCode_onTables : ∀ n ∈ [1, 2, 3, 6, 7, 8], ∃ c ∈ onTables, ofCode n = some c := by decide

theorem ofCode_onCursor : ∀ n ∈ [4, 5], ∃ c ∈ onCursor, ofCode n = some c := by decide

theorem rootOnly_of_onTables : ∀ c ∈ onTables, c.rootOnly = false := by decide

theorem rootOnly_of_onCursor : ∀ c ∈ onCursor, c.rootOnly = false := by decide

end CommandName

/-! ### The tests before the command's own (R164) -/

namespace State

variable {s : State} {f : ServiceFrame} {code : BitVec 8} {c : CommandName} {t : TableName}

theorem commandTable_of_onTables : ∀ c ∈ CommandName.onTables, s.commandTable c f = TableName.ofCode f.table.toNat := by
  simp [CommandName.onTables, commandTable]

theorem commandTable_of_onCursor : ∀ c ∈ CommandName.onCursor, s.commandTable c f = some s.cursor.table := by
  simp [CommandName.onCursor, commandTable]

/-- A command that is not root-only by its name is so by its table (R164). -/
theorem needsRoot_of_table (hname : c.rootOnly = false) (ht : s.commandTable c f = some t) : s.needsRoot c f = t.rootOnly := by
  simp [needsRoot, hname, ht]

theorem needsRoot_of_no_table (hname : c.rootOnly = false) (ht : s.commandTable c f = none) : s.needsRoot c f = false := by
  simp [needsRoot, hname, ht]

theorem answer_of_unassigned (h : CommandName.ofCode code.toNat = none) : s.answer code f = s.refuse .badCommand := by
  simp only [answer, h]

theorem answer_of_not_broadcast (hc : CommandName.ofCode code.toNat = some c) (hd : f.destination = 63)
    (hb : c.broadcasts = false) : s.answer code f = s.refuse .badCommand := by
  simp only [answer, hc]
  exact if_pos ⟨hd, hb⟩

theorem answer_of_not_root (hc : CommandName.ofCode code.toNat = some c) (hd : f.destination ≠ 63) (hrole : s.seq.role = .follower)
    (hneeds : s.needsRoot c f = true) : s.answer code f = s.refuse .notRoot := by
  simp only [answer, hc]
  rw [if_neg fun h => hd h.1, if_pos ⟨hrole, hneeds⟩]

/-- A command that passes the first tests meets its own. -/
theorem answer_of_allowed (hc : CommandName.ofCode code.toNat = some c) (hd : f.destination ≠ 63 ∨ c.broadcasts = true)
    (hmay : s.seq.role = .root ∨ s.needsRoot c f = false) : s.answer code f = s.perform c f := by
  simp only [answer, hc]
  rw [if_neg fun h => by simp [h.1, h.2] at hd, if_neg fun h => by simp [h.1, h.2] at hmay]

/-- A table command addressed to one part that may use the table meets its own tests (R164). -/
theorem answer_onTable (hc : CommandName.ofCode code.toNat = some c) (hmem : c ∈ CommandName.onTables) (hd : f.destination ≠ 63)
    (ht : TableName.ofCode f.table.toNat = some t) (hmay : s.MayUse t) : s.answer code f = s.perform c f := by
  refine answer_of_allowed hc (.inl hd) ?_
  rwa [needsRoot_of_table (CommandName.rootOnly_of_onTables c hmem) ((commandTable_of_onTables c hmem).trans ht)]

/-- A command at the cursor addressed to one part that may use the cursor's table meets its own tests (R164). -/
theorem answer_onCursor (hc : CommandName.ofCode code.toNat = some c) (hmem : c ∈ CommandName.onCursor) (hd : f.destination ≠ 63)
    (hmay : s.MayUse s.cursor.table) : s.answer code f = s.perform c f := by
  refine answer_of_allowed hc (.inl hd) ?_
  rwa [needsRoot_of_table (CommandName.rootOnly_of_onCursor c hmem) (commandTable_of_onCursor c hmem)]

theorem answer_broadcast_status (hd : f.destination = 63) (h : ∀ n ∈ [2, 3, 5, 6, 7, 9, 11], code.toNat ≠ n) :
    (s.answer code f).status = .badCommand := by
  cases hc : CommandName.ofCode code.toNat with
  | none => rw [answer_of_unassigned hc]; rfl
  | some c =>
    have hb : c.broadcasts = false := Bool.eq_false_iff.mpr fun hb =>
      h _ (CommandName.code_of_broadcasts hb) (by rw [CommandName.code_of_ofCode hc])
    rw [answer_of_not_broadcast hc hd hb]; rfl

/-- A follower refuses the commands that are root-only by their name (R164). -/
theorem answer_rootCommand_status (hd : f.destination ≠ 63) (hrole : s.seq.role = .follower)
    (h : code.toNat = 10 ∨ 16 ≤ code.toNat ∧ code.toNat ≤ 22) : (s.answer code f).status = .notRoot := by
  obtain ⟨c, hc, hroot⟩ := CommandName.ofCode_rootOnly h
  rw [answer_of_not_root hc hd hrole (by simp [needsRoot, hroot])]; rfl

/-- A follower refuses a table command on a root-only table (R164). -/
theorem answer_rootTable_status (hd : f.destination ≠ 63) (hrole : s.seq.role = .follower) (hcode : code.toNat ∈ [1, 2, 3, 6, 7, 8])
    (hlow : 13 ≤ f.table.toNat) (hhigh : f.table.toNat ≤ 15) : (s.answer code f).status = .notRoot := by
  obtain ⟨c, hmem, hc⟩ := CommandName.ofCode_onTables _ hcode
  obtain ⟨t, ht⟩ := TableName.ofCode_isSome (Nat.lt_succ_of_le hhigh)
  have hneeds : s.needsRoot c f = t.rootOnly :=
    needsRoot_of_table (CommandName.rootOnly_of_onTables c hmem) ((commandTable_of_onTables c hmem).trans ht)
  rw [TableName.rootOnly_of_code (TableName.code_eq_of_ofCode ht ▸ hlow)] at hneeds
  rw [answer_of_not_root hc hd hrole hneeds]; rfl

/-- A follower refuses a command at a cursor in a root-only table (R164). -/
theorem answer_rootCursor_status (hd : f.destination ≠ 63) (hrole : s.seq.role = .follower) (hcode : code.toNat ∈ [4, 5])
    (ht : 13 ≤ s.cursor.table.code) : (s.answer code f).status = .notRoot := by
  obtain ⟨c, hmem, hc⟩ := CommandName.ofCode_onCursor _ hcode
  have hneeds : s.needsRoot c f = s.cursor.table.rootOnly :=
    needsRoot_of_table (CommandName.rootOnly_of_onCursor c hmem) (commandTable_of_onCursor c hmem)
  rw [TableName.rootOnly_of_code ht] at hneeds
  rw [answer_of_not_root hc hd hrole hneeds]; rfl

theorem onTable_of_unassigned (h : TableName.ofCode f.table.toNat = none) (act : TableName → Answer) :
    s.onTable f act = s.refuse .badTable := by
  simp only [onTable, h]

/-- A table command on an unassigned table code is refused whatever the command (R164). -/
theorem perform_of_unassigned_table (ht : TableName.ofCode f.table.toNat = none) :
    ∀ c ∈ CommandName.onTables, s.perform c f = s.refuse .badTable := by
  simp [CommandName.onTables, perform, serveRead, serveWrite, serveCursor, serveSetBits, serveClearBits, serveTestSet,
    onTable_of_unassigned ht]

theorem answer_badTable_status (hd : f.destination ≠ 63) (hcode : code.toNat ∈ [1, 2, 3, 6, 7, 8]) (ht : 16 ≤ f.table.toNat) :
    (s.answer code f).status = .badTable := by
  obtain ⟨c, hmem, hc⟩ := CommandName.ofCode_onTables _ hcode
  have hnone := TableName.ofCode_of_ge ht
  have hneeds : s.needsRoot c f = false :=
    needsRoot_of_no_table (CommandName.rootOnly_of_onTables c hmem) ((commandTable_of_onTables c hmem).trans hnone)
  rw [answer_of_allowed hc (.inl hd) (.inr hneeds), perform_of_unassigned_table hnone c hmem]; rfl

/-- COPY_LIVE is refused while staging is locked (R164, R169). -/
theorem answer_copyLive_status (hlocked : s.plan.pendingActivation ≠ none) : (s.answer 0x09 f).status = .stageBusy := by
  have hlock : s.stagingLocked = true := Option.isSome_iff_ne_none.mpr hlocked
  rw [answer_of_allowed (c := .copyLive) rfl (.inr rfl) (.inr rfl), perform, serveCopyLive, if_pos hlock]; rfl

/-- The three bit commands are one, with the change and the reply of each (R168). -/
theorem answer_bits (hcode : code.toNat ∈ [6, 7, 8]) (hd : f.destination ≠ 63) (ht : TableName.ofCode f.table.toNat = some t)
    (hmay : s.MayUse t) :
    ∃ change reply, s.answer code f = s.bitsAt t f.index.toNat f.field.toNat f.value.toNat change reply := by
  have served (c : CommandName) (hc : code.toNat = c.code.toNat) (hmem : c ∈ CommandName.onTables) :
      s.answer code f = s.perform c f := answer_onTable (hc ▸ c.ofCode_code) hmem hd ht hmay
  simp only [List.mem_cons, List.not_mem_nil, or_false] at hcode
  obtain h | h | h := hcode
  · exact ⟨_, _, (served .setBits h (by decide)).trans (s.onTable_of_code ht _)⟩
  · exact ⟨_, _, (served .clearBits h (by decide)).trans (s.onTable_of_code ht _)⟩
  · exact ⟨_, _, (served .testSet h (by decide)).trans (s.onTable_of_code ht _)⟩

end State

/-! ### A refused command changes nothing (R163) -/

/-- An answer other than OK leaves the part as it was, with reply value 0. -/
def Answer.Harmless (a : Answer) (s : State) : Prop := a.status ≠ .ok → a.state = s ∧ a.value = 0

theorem Answer.Harmless.ite {s : State} {p : Prop} [Decidable p] {a b : Answer} (ha : a.Harmless s) (hb : b.Harmless s) :
    (if p then a else b).Harmless s := by
  split
  · exact ha
  · exact hb

theorem Answer.Harmless.advancing {s : State} {a : Answer} (h : a.Harmless s) (effective : Nat) : (a.advancing effective).Harmless s := by
  unfold Answer.advancing
  split
  · exact fun hne => absurd ‹_› hne
  · exact h

namespace State

variable (s : State)

theorem refuse_harmless (status : Status) : (s.refuse status).Harmless s := fun _ => ⟨rfl, rfl⟩

theorem accept_harmless (t : State) (value : Nat) : (t.accept value).Harmless s := fun h => absurd rfl h

theorem readAt_harmless (t : TableName) (index field : Nat) : (s.readAt t index field).Harmless s :=
  .ite (s.refuse_harmless _) (.ite (s.refuse_harmless _) (.ite (s.refuse_harmless _) (s.accept_harmless _ _)))

theorem writeAt_harmless (t : TableName) (index field v : Nat) : (s.writeAt t index field v).Harmless s := by
  refine .ite (s.refuse_harmless _) (.ite (s.refuse_harmless _) (.ite (s.refuse_harmless _) (.ite (s.refuse_harmless _) ?_)))
  split
  · exact s.refuse_harmless _
  · exact s.accept_harmless _ _

theorem bitsAt_harmless (t : TableName) (index field v : Nat) (change : Vector Bool 8 → Nat → Vector Bool 8)
    (reply : Vector Bool 8 → Nat) : (s.bitsAt t index field v change reply).Harmless s :=
  .ite (s.refuse_harmless _)
    (.ite (.ite (s.refuse_harmless _) (.ite (s.refuse_harmless _) (s.accept_harmless _ _)))
      (.ite (s.refuse_harmless _) (s.refuse_harmless _)))

theorem onTable_harmless (f : ServiceFrame) {act : TableName → Answer} (h : ∀ t, (act t).Harmless s) :
    (s.onTable f act).Harmless s := by
  unfold onTable
  split
  · exact s.refuse_harmless _
  · exact h _

theorem atCursor_harmless (f : ServiceFrame) {act : TableName → Nat → Answer} (h : ∀ t index, (act t index).Harmless s) :
    (s.atCursor f act).Harmless s :=
  .ite (s.refuse_harmless _) ((h _ _).advancing _)

theorem tryRun_harmless (target : Option Nat) (reply : Nat) : (s.tryRun target reply).Harmless s := by
  unfold tryRun
  split
  · exact s.refuse_harmless _
  · exact s.accept_harmless _ _

theorem serveRun_harmless : s.serveRun.Harmless s := by
  unfold serveRun
  split
  case h_1 | h_2 => exact s.tryRun_harmless _ _
  all_goals exact s.refuse_harmless _

theorem serveRunFor_harmless (f : ServiceFrame) : (s.serveRunFor f).Harmless s := by
  refine .ite (s.refuse_harmless _) ?_
  split
  case h_1 | h_2 => exact s.tryRun_harmless _ _
  case h_3 => exact s.accept_harmless _ _
  all_goals exact s.refuse_harmless _

theorem servePause_harmless : s.servePause.Harmless s := by
  unfold servePause
  split
  case h_1 | h_2 | h_3 | h_4 => exact s.accept_harmless _ _
  all_goals exact s.refuse_harmless _

theorem serveClearBreak_harmless : s.serveClearBreak.Harmless s := by
  unfold serveClearBreak
  split
  case h_1 => exact s.accept_harmless _ _
  all_goals exact s.refuse_harmless _

theorem serveOrigin_harmless : s.serveOrigin.Harmless s := by
  unfold serveOrigin
  split
  case h_1 | h_2 | h_3 | h_4 => exact .ite (s.refuse_harmless _) (s.accept_harmless _ _)
  all_goals exact s.refuse_harmless _

theorem serveEnumerate_harmless : s.serveEnumerate.Harmless s := by
  unfold serveEnumerate
  split
  case h_1 | h_2 => exact .ite (s.refuse_harmless _) (s.accept_harmless _ _)
  all_goals exact s.refuse_harmless _

theorem serveTakeNotice_harmless : s.serveTakeNotice.Harmless s := by
  unfold serveTakeNotice
  split
  · exact s.refuse_harmless _
  · exact s.accept_harmless _ _

theorem perform_harmless (c : CommandName) (f : ServiceFrame) : (s.perform c f).Harmless s := by
  cases c
  case read => exact s.onTable_harmless f fun _ => s.readAt_harmless _ _ _
  case write => exact s.onTable_harmless f fun _ => s.writeAt_harmless _ _ _ _
  case cursor => exact s.onTable_harmless f fun _ => .ite (s.refuse_harmless _) (s.accept_harmless _ _)
  case readNext => exact s.atCursor_harmless f fun _ _ => s.readAt_harmless _ _ _
  case writeNext => exact s.atCursor_harmless f fun _ _ => s.writeAt_harmless _ _ _ _
  case setBits | clearBits | testSet => exact s.onTable_harmless f fun _ => s.bitsAt_harmless _ _ _ _ _ _
  case copyLive => exact .ite (s.refuse_harmless _) (s.accept_harmless _ _)
  case takeNotice => exact s.serveTakeNotice_harmless
  case resetPart => exact s.accept_harmless _ _
  case run => exact s.serveRun_harmless
  case runFor => exact s.serveRunFor_harmless f
  case pause => exact s.servePause_harmless
  case clearBreak => exact s.serveClearBreak_harmless
  case origin => exact s.serveOrigin_harmless
  case swap =>
    exact .ite (s.refuse_harmless _) (.ite (s.refuse_harmless _) (.ite (s.refuse_harmless _) (s.accept_harmless _ _)))
  case enumerate => exact s.serveEnumerate_harmless

theorem answer_harmless (code : BitVec 8) (f : ServiceFrame) : (s.answer code f).Harmless s := by
  unfold answer
  split
  · exact s.refuse_harmless _
  · exact .ite (s.refuse_harmless _) (.ite (s.refuse_harmless _) (s.perform_harmless _ f))

end State

/-! ### What refuses a table command (R164, R167, R168) -/

namespace State

variable {s : State} {t : TableName} {index field v : Nat}

/-- READ refuses an index outside the table, or above the entries of the halt record, then an undefined field, and last of all a
NOTICE that has not been taken (log entry 17). -/
theorem readAt_refusals (s : State) (t : TableName) (index field : Nat) :
    let inside := index < t.size ∧ (t = .haltRecord → index ≤ s.root.haltRecord.entries.length)
    (¬ inside → (s.readAt t index field).status = .badIndex) ∧
      (inside → t.defines field = false → (s.readAt t index field).status = .badField) ∧
      (inside → t.defines field = true → t = .notice → s.root.lastNotice = none → (s.readAt t index field).status = .empty) := by
  have hinside : (t.size ≤ index ∨ (t = .haltRecord ∧ s.root.haltRecord.entries.length < index)) ↔
      ¬ (index < t.size ∧ (t = .haltRecord → index ≤ s.root.haltRecord.entries.length)) := by
    simp only [not_and_or, Classical.not_imp, Nat.not_lt, Nat.not_le]
  unfold readAt
  simp only [hinside]
  refine ⟨fun hout => ?_, fun hin hundefined => ?_, fun hin hdefined hnotice hlast => ?_⟩
  · rw [if_pos hout]; rfl
  · rw [if_neg (not_not.mpr hin), if_pos hundefined]; rfl
  · rw [if_neg (not_not.mpr hin), if_neg (by simp [hdefined]), if_pos ⟨hnotice, hlast⟩]; rfl

/-- WRITE refuses an index outside the table, an undefined field, a field that is not written, a staged table while staging is locked,
and a value outside the field's range, in this order. -/
theorem writeAt_refusals (s : State) (t : TableName) (index field v : Nat) :
    (t.size ≤ index → (s.writeAt t index field v).status = .badIndex) ∧
      (index < t.size → t.defines field = false → (s.writeAt t index field v).status = .badField) ∧
      (index < t.size → t.defines field = true → t.writes index field = false →
        (s.writeAt t index field v).status = .readOnly) ∧
      (index < t.size → t.defines field = true → t.staged = true → s.plan.pendingActivation ≠ none →
        (s.writeAt t index field v).status = .stageBusy) ∧
      (index < t.size → t.defines field = true → t.writes index field = true →
        (t.staged = false ∨ s.plan.pendingActivation = none) → s.writeField t index field v = none →
        (s.writeAt t index field v).status = .badValue) := by
  refine ⟨fun hout => ?_, fun hin hundefined => ?_, fun hin hdefined hfixed => ?_, fun hin hdefined hstaged hlocked => ?_,
    fun hin hdefined hwrites hfree hrange => ?_⟩
  · simp [writeAt, refuse, hout]
  · simp [writeAt, refuse, hundefined, Nat.not_le.mpr hin]
  · simp [writeAt, refuse, hdefined, hfixed, Nat.not_le.mpr hin]
  · have hlock : s.stagingLocked = true := Option.isSome_iff_ne_none.mpr hlocked
    simp [writeAt, refuse, hdefined, TableName.writes_of_staged hstaged, hstaged, hlock, Nat.not_le.mpr hin]
  · obtain h | h := hfree
    all_goals simp [writeAt, refuse, stagingLocked, hdefined, hwrites, h, hrange, Nat.not_le.mpr hin]

/-- A bit command refuses an index outside the table, a field that is no bit word, a staged word while staging is locked, and a value
above 255, in this order. -/
theorem bitsAt_refusals (s : State) (t : TableName) (index field v : Nat) (change : Vector Bool 8 → Nat → Vector Bool 8)
    (reply : Vector Bool 8 → Nat) :
    let status := (s.bitsAt t index field v change reply).status
    (t.size ≤ index → status = .badIndex) ∧
      (index < t.size →
        (t.readOnlyWord field = true → status = .readOnly) ∧
        (t.bitWord field = false → t.readOnlyWord field = false → status = .badField) ∧
        (t.bitWord field = true → t.staged = true → s.plan.pendingActivation ≠ none → status = .stageBusy) ∧
        (t.bitWord field = true → t.staged = false ∨ s.plan.pendingActivation = none → 255 < v → status = .badValue)) := by
  refine ⟨fun hout => by simp [bitsAt, refuse, hout], fun hin => ?_⟩
  have hindex := Nat.not_le.mpr hin
  refine ⟨fun hfixed => ?_, fun hword hfixed => ?_, fun hword hstaged hlocked => ?_, fun hword hfree hv => ?_⟩
  · simp [bitsAt, refuse, hindex, hfixed, TableName.bitWord_of_readOnlyWord hfixed]
  · simp [bitsAt, refuse, hindex, hfixed, hword]
  · have hlock : s.stagingLocked = true := Option.isSome_iff_ne_none.mpr hlocked
    simp [bitsAt, refuse, hindex, hword, hstaged, hlock]
  · obtain h | h := hfree
    all_goals simp [bitsAt, refuse, stagingLocked, hindex, hword, h, hv]

theorem advancing_status (a : Answer) (effective : Nat) : (a.advancing effective).status = a.status := by
  unfold Answer.advancing
  split <;> rfl

theorem atCursor_at_end (h : s.cursor.table.size ≤ s.cursor.index) (f : ServiceFrame) (act : TableName → Nat → Answer) :
    (s.atCursor f act).status = .cursorEnd := by
  simp [atCursor, refuse, h]

theorem atCursor_inside (h : s.cursor.index < s.cursor.table.size) (f : ServiceFrame) (act : TableName → Nat → Answer) :
    (s.atCursor f act).status = (act s.cursor.table (s.cursor.index + f.offset.toNat)).status := by
  simp [atCursor, Nat.not_le.mpr h, advancing_status]

end State

/-- Settles O50: the tables by their cases; `answer_harmless`; the tests before a command's own, one lemma each; and the refusals of READ,
WRITE, CURSOR, the bit commands and the commands at the cursor. -/
theorem refusalsInOrder : Obligations.RefusalsInOrder := by
  refine ⟨⟨fun t => by cases t <;> decide, rfl, fun _ => TableName.ofCode_of_ge, rfl, rfl, TableName.staged_iff,
      TableName.rootOnly_iff, fun field => by simp [TableName.defines], fun t index field _ _ =>
        ⟨fun h => TableName.writes_of_free t h index field, ?_, ?_, fun h => TableName.writes_of_fixed t h index field⟩⟩,
    fun s code f => s.answer_harmless code f,
    fun s code f => ⟨fun h => ?_, State.answer_broadcast_status, State.answer_rootCommand_status, State.answer_rootTable_status,
      State.answer_rootCursor_status, State.answer_badTable_status, ?_⟩,
    fun s f t hd ht hmay => ⟨?_, ?_, fun hindex => ?_, fun code hcode => ?_⟩,
    fun s f hd hmay => ?_, State.readAt_refusals, State.writeAt_refusals⟩
  · rintro rfl
    exact decide_eq_true_iff
  · rintro rfl
    exact TableName.writes_source_iff index field
  · rw [State.answer_of_unassigned (CommandName.ofCode_of_unassigned h)]; rfl
  · rintro rfl
    exact State.answer_copyLive_status
  · rw [State.answer_onTable (c := .read) rfl (by decide) hd ht hmay]
    exact congrArg Answer.status (s.onTable_of_code ht _)
  · rw [State.answer_onTable (c := .write) rfl (by decide) hd ht hmay]
    exact congrArg Answer.status (s.onTable_of_code ht _)
  · rw [State.answer_onTable (c := .cursor) rfl (by decide) hd ht hmay, State.perform, State.serveCursor, s.onTable_of_code ht,
      if_pos hindex]
    rfl
  · obtain ⟨change, reply, hanswer⟩ := State.answer_bits hcode hd ht hmay
    obtain ⟨hout, hin⟩ := s.bitsAt_refusals t f.index.toNat f.field.toNat f.value.toNat change reply
    simp only [hanswer, ← TableName.bitWord_iff, ← TableName.readOnlyWord_iff]
    refine ⟨hout, fun hindex => ?_⟩
    obtain ⟨hreadOnly, hbadField, hstageBusy, hbadValue⟩ := hin hindex
    refine ⟨hreadOnly, fun hword hfixed => hbadField (by simpa using hword) (by simpa using hfixed), fun hword h hlocked => ?_,
      fun hword h hv => ?_⟩
    · exact hstageBusy hword (by rw [h]; rfl) hlocked
    · exact hbadValue hword (h.imp_left fun h => by rw [h]; rfl) hv
  · dsimp only
    rw [State.answer_onCursor (c := .readNext) rfl (by decide) hd hmay, State.answer_onCursor (c := .writeNext) rfl (by decide) hd hmay]
    exact ⟨fun hend => ⟨State.atCursor_at_end hend f _, State.atCursor_at_end hend f _⟩,
      fun hin => ⟨State.atCursor_inside hin f _, State.atCursor_inside hin f _⟩⟩

end Sys2Proof.Machine
end

section
/-! SUPPORT. The outstanding beat list (R133), the halt record (R142), the output queue (R111) and the saturating counts, block by block. -/

namespace Sys2Proof.Machine

/-! ### The outstanding beat list (R133) -/

/-- `n` consecutive sequences, the newest one before `next` (R133). -/
def consecutive (n next : Nat) : List Nat := (List.range n).map fun k => (next + 256 - n + k) % 256

theorem drop_consecutive {n : Nat} (h : n ≤ 32) (next d : Nat) : (consecutive n next).drop d = consecutive (n - d) next := by
  refine List.ext_getElem (by simp [consecutive]) fun i hi _ => ?_
  have hi : d + i < n := by simp [consecutive] at hi; omega
  simp only [consecutive, List.getElem_drop, List.getElem_map, List.getElem_range]
  omega

theorem consecutive_append {n next : Nat} (hroom : n < 32) (hnext : next < 256) :
    consecutive n next ++ [next] = consecutive (n + 1) ((next + 1) % 256) := by
  refine List.ext_getElem (by simp [consecutive]) fun i hi _ => ?_
  have hi : i < n + 1 := by simpa [consecutive] using hi
  rcases Nat.lt_succ_iff_lt_or_eq.mp hi with hlt | rfl
  · rw [List.getElem_append_left (by simpa [consecutive] using hlt)]
    simp only [consecutive, List.getElem_map, List.getElem_range]
    omega
  · rw [List.getElem_append_right (by simp [consecutive])]
    simp only [consecutive, List.length_map, List.length_range, Nat.sub_self, List.getElem_cons_zero, List.getElem_map,
      List.getElem_range]
    omega

namespace RootTimebase

variable {r q : RootTimebase}

/-- The sequences listed, oldest first. -/
def sequences (r : RootTimebase) : List Nat := r.outstanding.map fun e => e.sequence

theorem listLaw_iff :
    r.ListLaw ↔ r.outstanding.length ≤ 32 ∧ r.nextSequence < 256 ∧ r.sequences = consecutive r.outstanding.length r.nextSequence :=
  Iff.rfl

/-- Entries taken off the old end of the list, or changed in their flags alone (R133, R134, R136). -/
theorem ListLaw.of_drop (h : r.ListLaw) (d : Nat) (hlist : q.sequences = r.sequences.drop d)
    (hnext : q.nextSequence = r.nextSequence) : q.ListLaw := by
  obtain ⟨hlength, hbound, hsequences⟩ := listLaw_iff.mp h
  have hq : q.outstanding.length = r.outstanding.length - d := by simpa [sequences] using congrArg List.length hlist
  refine listLaw_iff.mpr ⟨by omega, by omega, ?_⟩
  rw [hlist, hsequences, drop_consecutive hlength, hq, hnext]

/-- A frame listed at the tail, where the list has room (R130, R133). -/
theorem ListLaw.of_listed (h : r.ListLaw) (hroom : r.outstanding.length < 32) {e : OutstandingBeat}
    (he : e.sequence = r.nextSequence) (hlist : q.outstanding = r.outstanding ++ [e])
    (hnext : q.nextSequence = (r.nextSequence + 1) % 256) : q.ListLaw := by
  obtain ⟨-, hbound, hsequences⟩ := listLaw_iff.mp h
  refine listLaw_iff.mpr ⟨by simp [hlist]; omega, by omega, ?_⟩
  have hq : q.sequences = r.sequences ++ [r.nextSequence] := by simp [sequences, hlist, he]
  rw [hq, hsequences, consecutive_append hroom hbound, hlist, hnext, List.length_append, List.length_singleton]

@[simp] theorem clearHaltCurrent_sequences : r.clearHaltCurrent.sequences = r.sequences := by
  simp [clearHaltCurrent, sequences]

@[simp] theorem clearCurrent_sequences : r.clearCurrent.sequences = r.sequences := by
  simp [clearCurrent, sequences]

@[simp] theorem notify_list (n : LoggedRequest) :
    (r.notify n).outstanding = r.outstanding ∧ (r.notify n).nextSequence = r.nextSequence := by
  unfold notify; split <;> exact ⟨rfl, rfl⟩

@[simp] theorem notify_sequences (n : LoggedRequest) : (r.notify n).sequences = r.sequences := by
  simp [sequences]

/-! ### The halt record and the notice queue (R142) -/

/-- A notice joins a queue of at most 16 (R143). -/
theorem RecordLaw.notify (h : r.RecordLaw) (n : LoggedRequest) : (r.notify n).RecordLaw := by
  obtain ⟨hentries, hnotices, hprimary⟩ := h
  unfold RootTimebase.notify
  split
  · exact ⟨hentries, by simp; omega, hprimary⟩
  · exact ⟨hentries, hnotices, hprimary⟩

/-- A secondary joins a record of at most 8 entries (R140). -/
theorem RecordLaw.append (h : r.RecordLaw) (n : LoggedRequest) :
    ({ r with haltRecord := r.haltRecord.append n } : RootTimebase).RecordLaw := by
  obtain ⟨hentries, hnotices, hprimary⟩ := h
  unfold HaltRecord.append
  split
  · exact ⟨by simp; omega, hnotices, fun _ => by simp⟩
  · exact ⟨hentries, hnotices, hprimary⟩

/-! ### Saturating counts -/

/-- The saturating counts of the root timebase (R129, R142). -/
def CountLaw (r : RootTimebase) : Prop :=
  r.lostCount ≤ 65535 ∧ r.foreignCount ≤ 65535 ∧ r.deferredCount ≤ 65535 ∧ r.noticeDropCount ≤ 65535 ∧
    r.largestRoundTrip ≤ 65535 ∧ r.haltRecord.overflowCount ≤ 65535

end RootTimebase

/-- A saturating count stops at 65535. -/
theorem raiseCount_le (count n : Nat) : raiseCount count n ≤ 65535 := Nat.min_le_right _ _

/-- The saturating counts of the sequencer (R1). -/
def Sequencer.CountLaw (q : Sequencer) : Prop :=
  q.underrunCount ≤ 65535 ∧ q.silenceCount ≤ 65535 ∧ q.referenceLossCount ≤ 65535

/-- The saturating counts of the frame handler (R128). -/
def FrameHandler.CountLaw (h : FrameHandler) : Prop :=
  h.checkErrors ≤ 65535 ∧ h.unknowns ≤ 65535 ∧ h.outputDrops ≤ 65535

/-- The saturating counts of the request unit (R108). -/
def RequestUnit.CountLaw (u : RequestUnit) : Prop :=
  u.droppedCount ≤ 65535 ∧ u.mergedCount ≤ 65535 ∧ u.cancelCount ≤ 65535 ∧ u.placedCount ≤ 65535

theorem State.countLaw_iff (s : State) :
    s.CountLaw ↔
      s.seq.CountLaw ∧ s.handler.CountLaw ∧ s.requests.CountLaw ∧ s.root.CountLaw ∧ s.plan.lateCount ≤ 65535 := by
  simp [CountLaw, Sequencer.CountLaw, FrameHandler.CountLaw, RequestUnit.CountLaw, RootTimebase.CountLaw, and_assoc]

theorem RootTimebase.CountLaw.notify {r : RootTimebase} (h : r.CountLaw) (n : LoggedRequest) : (r.notify n).CountLaw := by
  obtain ⟨hlost, hforeign, hdeferred, -, htrip, hoverflow⟩ := id h
  unfold RootTimebase.notify
  split
  · exact h
  · exact ⟨hlost, hforeign, hdeferred, raiseCount_le _ _, htrip, hoverflow⟩

theorem RootTimebase.CountLaw.append {r : RootTimebase} (h : r.CountLaw) (n : LoggedRequest) :
    ({ r with haltRecord := r.haltRecord.append n } : RootTimebase).CountLaw := by
  obtain ⟨hlost, hforeign, hdeferred, hdropped, htrip, -⟩ := id h
  unfold HaltRecord.append
  split
  · exact h
  · exact ⟨hlost, hforeign, hdeferred, hdropped, htrip, raiseCount_le _ _⟩

/-! ### Ring-out (R111) -/

namespace FrameHandler

/-- A frame handed to ring-out leaves at most four waiting. -/
theorem hand_queue_length {h : FrameHandler} (hq : h.queue.length ≤ 4) (frame : List Byte) : (h.hand frame).queue.length ≤ 4 := by
  unfold hand
  (repeat' split)
  · exact hq
  · simp; omega
  · exact hq

theorem CountLaw.hand {h : FrameHandler} (hc : h.CountLaw) (frame : List Byte) : (h.hand frame).CountLaw := by
  obtain ⟨hchecks, hunknowns, -⟩ := id hc
  unfold FrameHandler.hand
  (repeat' split)
  · exact hc
  · exact hc
  · exact ⟨hchecks, hunknowns, raiseCount_le _ _⟩

theorem transmitDone_queue_length (h : FrameHandler) : h.transmitDone.queue.length ≤ h.queue.length := by
  unfold transmitDone
  split <;> simp [*]

theorem CountLaw.transmitDone {h : FrameHandler} (hc : h.CountLaw) : h.transmitDone.CountLaw := by
  unfold FrameHandler.transmitDone
  split <;> exact hc

end FrameHandler

/-! ### The request unit (R99, R102, R104) -/

namespace RequestUnit

variable {u : RequestUnit}

theorem CountLaw.raise (h : u.CountLaw) (i : Fin 36) (kind : Option Kind) (cause : Nat) : (u.raise i kind cause).CountLaw := by
  obtain ⟨hdropped, hmerged, hcancel, hplaced⟩ := h
  obtain ⟨hd, hm⟩ := u.raise_counts i kind cause
  refine ⟨?_, ?_, by simpa, by simpa⟩
  · rw [hd]; split
    · exact raiseCount_le _ _
    · exact hdropped
  · rw [hm]; split
    · exact raiseCount_le _ _
    · exact hmerged

theorem CountLaw.retest (h : u.CountLaw) (i : Fin 36) (level : PendingRequest → Nat) : (u.retest i level).CountLaw := by
  obtain ⟨hdropped, hmerged, hcancel, hplaced⟩ := h
  obtain ⟨hd, hm, hp, hc⟩ := u.retest_counts i level
  refine ⟨hd ▸ hdropped, hm ▸ hmerged, ?_, hp ▸ hplaced⟩
  rw [hc]; split
  · exact raiseCount_le _ _
  · exact hcancel

theorem CountLaw.release (h : u.CountLaw) (i : Fin 36) : (u.release i).CountLaw := by
  obtain ⟨hdropped, hmerged, hcancel, -⟩ := h
  exact ⟨hdropped, hmerged, hcancel, raiseCount_le _ _⟩

theorem CountLaw.raiseEach (h : u.CountLaw) (l : List (Fin 32)) (kind : Fin 32 → Option Kind) (cause : Fin 32 → Nat) :
    (u.raiseEach l kind cause).CountLaw := by
  induction l using List.reverseRecOn with
  | nil => exact h
  | append_singleton l i ih => rw [raiseEach_concat]; exact ih.raise _ _ _

theorem CountLaw.retestEach (h : u.CountLaw) (l : List (Fin 36)) : (u.retestEach l).CountLaw := by
  induction l using List.reverseRecOn with
  | nil => exact h
  | append_singleton l i ih => rw [retestEach_concat]; exact ih.retest _ _

theorem CountLaw.writeMask (h : u.CountLaw) (mask : Fin 4) : (u.writeMask mask).CountLaw := by
  have hset : ({ u with mask } : RequestUnit).CountLaw := h
  rw [writeMask_eq]
  exact hset.retestEach _

/-- A write of a source's enable, level or kind (R97, R102). -/
theorem CountLaw.write (h : u.CountLaw) {v : RequestUnit} {i : Fin 36} {field n : Nat} (hw : u.write i field n = some v) :
    v.CountLaw := by
  have hset (setting : SourceSetting) : ({ u with settings := u.settings.set i setting } : RequestUnit).CountLaw := h
  unfold RequestUnit.write at hw
  split at hw
  · obtain ⟨enable, -, rfl⟩ := Option.map_eq_some_iff.mp hw
    exact (hset _).retest _ _
  · obtain ⟨level, -, rfl⟩ := Option.map_eq_some_iff.mp hw
    exact (hset _).retest _ _
  · obtain ⟨kind, -, rfl⟩ := Option.map_eq_some_iff.mp hw
    split <;> exact h
  · cases hw

end RequestUnit
end Sys2Proof.Machine
end

section
/-! SUPPORT. The laws of the queues, the lists, the cursor and the saturating counts (R111, R133, R142, R162) over every operation of the
part, every command and every tick. -/

namespace Sys2Proof.Machine

/-- The laws of the queues, the lists, the cursor and the saturating counts pass from `s` to `t`, block by block. -/
structure State.Confines (s t : State) : Prop where
  seq : s.seq.CountLaw → t.seq.CountLaw
  queue : s.handler.queue.length ≤ 4 → t.handler.queue.length ≤ 4
  handler : s.handler.CountLaw → t.handler.CountLaw
  requests : s.requests.CountLaw → t.requests.CountLaw
  list : s.root.ListLaw → t.root.ListLaw
  record : s.root.RecordLaw → t.root.RecordLaw
  root : s.root.CountLaw → t.root.CountLaw
  late : s.plan.lateCount ≤ 65535 → t.plan.lateCount ≤ 65535
  cursor : s.CursorLaw → t.CursorLaw

namespace State

variable {s t u : State}

theorem Confines.laws (h : s.Confines t) :
    (s.QueueLaw → t.QueueLaw) ∧ (s.CursorLaw → t.CursorLaw) ∧ (s.CountLaw → t.CountLaw) := by
  refine ⟨fun ⟨hqueue, hlist, hrecord⟩ => ⟨h.queue hqueue, h.list hlist, h.record hrecord⟩, h.cursor, ?_⟩
  rw [countLaw_iff, countLaw_iff]
  exact fun ⟨hseq, hhandler, hrequests, hroot, hlate⟩ =>
    ⟨h.seq hseq, h.handler hhandler, h.requests hrequests, h.root hroot, h.late hlate⟩

/-! ### The relation -/

theorem Confines.trans (h : s.Confines t) (k : t.Confines u) : s.Confines u where
  seq := k.seq ∘ h.seq
  queue := k.queue ∘ h.queue
  handler := k.handler ∘ h.handler
  requests := k.requests ∘ h.requests
  list := k.list ∘ h.list
  record := k.record ∘ h.record
  root := k.root ∘ h.root
  late := k.late ∘ h.late
  cursor := k.cursor ∘ h.cursor

theorem Confines.refl (s : State) : s.Confines s := ⟨id, id, id, id, id, id, id, id, id⟩

theorem Confines.ite {p : Prop} [Decidable p] (ht : p → s.Confines t) (hu : ¬ p → s.Confines u) :
    s.Confines (if p then t else u) := by
  split
  · exact ht ‹_›
  · exact hu ‹_›

/-- Every item that the laws read. -/
def confined (s : State) :
    (Nat × Nat × Nat) × (List (List Byte) × Nat × Nat × Nat) × (Nat × Nat × Nat × Nat) ×
      RootTimebase × Nat × Cursor :=
  ((s.seq.underrunCount, s.seq.silenceCount, s.seq.referenceLossCount),
    (s.handler.queue, s.handler.checkErrors, s.handler.unknowns, s.handler.outputDrops),
    (s.requests.droppedCount, s.requests.mergedCount, s.requests.cancelCount, s.requests.placedCount), s.root, s.plan.lateCount,
    s.cursor)

/-- An event that leaves every item that the laws read. -/
theorem Confines.of_frame (h : t.confined = s.confined) : s.Confines t := by
  simp only [confined, Prod.mk.injEq] at h
  obtain ⟨⟨hunderrun, hsilence, hloss⟩, ⟨hqueue, hchecks, hunknowns, hdrops⟩,
    ⟨hdropped, hmerged, hcancel, hplaced⟩, hroot, hlate, hcursor⟩ := h
  refine ⟨?_, by rw [hqueue]; exact id, ?_, ?_, by rw [hroot]; exact id, by rw [hroot]; exact id,
    by rw [hroot]; exact id, by rw [hlate]; exact id, ?_⟩
  · simp only [Sequencer.CountLaw, hunderrun, hsilence, hloss, imp_self]
  · simp only [FrameHandler.CountLaw, hchecks, hunknowns, hdrops, imp_self]
  · simp only [RequestUnit.CountLaw, hdropped, hmerged, hcancel, hplaced, imp_self]
  · simp only [CursorLaw, hcursor, imp_self]

/-- An event whose last part leaves every item that the laws read. -/
theorem Confines.then_frame (h : s.Confines t) (k : u.confined = t.confined) : s.Confines u := h.trans (.of_frame k)

/-- An event, named by its last part. -/
theorem Confines.after (k : t.Confines u) (h : s.Confines t) : s.Confines u := h.trans k

/-! ### Events that leave every item outside one block -/

theorem Confines.of_seq (hrest : (t.setSeq s.seq).confined = s.confined) (h : s.seq.CountLaw → t.seq.CountLaw) : s.Confines t :=
  have rest := Confines.of_frame hrest
  { rest with seq := h }

theorem Confines.of_handler (hrest : (t.setHandler s.handler).confined = s.confined)
    (hqueue : s.handler.queue.length ≤ 4 → t.handler.queue.length ≤ 4) (hcounts : s.handler.CountLaw → t.handler.CountLaw) :
    s.Confines t :=
  have rest := Confines.of_frame hrest
  { rest with queue := hqueue, handler := hcounts }

theorem Confines.of_requests (hrest : (t.setRequests s.requests).confined = s.confined)
    (h : s.requests.CountLaw → t.requests.CountLaw) : s.Confines t :=
  have rest := Confines.of_frame hrest
  { rest with requests := h }

theorem Confines.of_root (hrest : (t.setRoot s.root).confined = s.confined) (hlist : s.root.ListLaw → t.root.ListLaw)
    (hrecord : s.root.RecordLaw → t.root.RecordLaw) (hcounts : s.root.CountLaw → t.root.CountLaw) : s.Confines t :=
  have rest := Confines.of_frame hrest
  { rest with list := hlist, record := hrecord, root := hcounts }

theorem Confines.of_plan (hrest : (t.setPlan s.plan).confined = s.confined)
    (h : s.plan.lateCount ≤ 65535 → t.plan.lateCount ≤ 65535) : s.Confines t :=
  have rest := Confines.of_frame hrest
  { rest with late := h }

theorem Confines.of_cursor (hrest : (t.setCursor s.cursor).confined = s.confined) (h : t.CursorLaw) : s.Confines t :=
  have rest := Confines.of_frame hrest
  { rest with cursor := fun _ => h }

variable (s)

theorem setRequests_confines {u : RequestUnit} (h : s.requests.CountLaw → u.CountLaw) : s.Confines (s.setRequests u) :=
  .of_requests rfl h

theorem setEvents_confines (x : EventTable) : s.Confines (s.setEvents x) := .of_frame rfl

theorem setStaged_confines (p : Plan) : s.Confines (s.setStaged p) := .of_frame rfl

theorem setReception_confines (r : Reception) : s.Confines (s.setReception r) := .of_frame rfl

theorem hand_confines (frame : List Byte) : s.Confines (s.hand frame) :=
  .of_handler rfl (FrameHandler.hand_queue_length · frame) fun h => h.hand frame

theorem raise_confines (i : Fin 36) (kind : Option Kind) (cause : Nat) : s.Confines (s.raise i kind cause) :=
  .of_requests rfl fun h => h.raise i kind cause

/-! ### Activations, origins and in-band resets (R19, R22, R157, R160) -/

theorem raiseClamps_confines (clamps cause : Nat) : s.Confines (s.raiseClamps clamps cause) :=
  .ite (fun _ => .refl s) fun _ => s.raise_confines _ _ _

theorem activate_confines (a : Activation) : s.Confines (s.activate a) := (raiseClamps_confines _ _ _).after (.of_frame rfl)

theorem activateLate_confines (a : Activation) : s.Confines (s.activateLate a) := by
  have counted (t : State) : t.Confines (t.setPlan { t.plan with lateCount := raiseCount t.plan.lateCount 1 }) :=
    .of_plan rfl fun _ => raiseCount_le _ _
  exact ((s.activate_confines a).trans (counted _)).trans (raise_confines _ _ _ _)

theorem activateAtOrigin_confines (a : Activation) : s.Confines (s.activateAtOrigin a) := (raiseClamps_confines _ _ _).after (.of_frame rfl)

theorem readActivation_confines (f : BeatFields) (origin : Bool) : s.Confines (s.readActivation f origin) := by
  have weighed (t : State) (a : Activation) : t.Confines (t.weighActivation a origin) :=
    .ite (fun _ => t.activateAtOrigin_confines a) fun _ => .ite (fun _ => t.activateLate_confines a) fun _ => .refl t
  exact .ite (fun _ => (weighed _ _).after (.of_frame rfl)) fun _ => .refl s

/-- The sequencer at origin keeps its counts (R19). -/
theorem atOrigin_confines (number now timeout : Nat) : s.Confines (s.setSeq (s.seq.atOrigin number now timeout)) :=
  .of_seq rfl fun h => by rw [setSeq_seq, Sequencer.atOrigin_eq]; exact h

theorem performOrigin_confines (number : Nat) : s.Confines (s.performOrigin number) := by
  have applied (t : State) : t.Confines (t.setPlan t.plan.atOrigin) :=
    .of_plan rfl fun h => by unfold PlanStore.atOrigin; split <;> exact h
  exact ((s.atOrigin_confines _ _ _).trans (applied _)).trans ((raiseClamps_confines _ _ _).after (.of_frame rfl))

theorem resetBlocks_confines : s.Confines s.resetBlocks :=
  .of_seq rfl fun h => by rw [resetBlocks_seq, Sequencer.atReset_eq]; exact h

/-! ### Records at the root (R138 to R140) -/

/-- A halt decision neither lists nor removes an entry (R133, R139). -/
theorem decideHalt_confines (r : RequestRecord) : s.Confines (s.decideHalt r) := by
  refine .of_root rfl (fun h => h.of_drop 0 RootTimebase.clearHaltCurrent_sequences rfl) (fun ⟨_, hnotices, _⟩ => ?_)
    fun ⟨hlost, hforeign, hdeferred, hdropped, htrip, _⟩ => ?_
  · exact ⟨by simp [decideHalt, HaltRecord.decided], hnotices, fun _ => by simp [decideHalt, HaltRecord.decided]⟩
  · exact ⟨hlost, hforeign, hdeferred, hdropped, htrip, Nat.zero_le _⟩

theorem addNotice_confines (r : RequestRecord) (late : Bool) : s.Confines (s.addNotice r late) :=
  .of_root rfl (fun h => h.of_drop 0 (by simp [addNotice]) (by simp [addNotice])) (fun h => h.notify _) fun h => h.notify _

theorem addSecondary_confines (r : RequestRecord) : s.Confines (s.addSecondary r) := by
  have joined (n : LoggedRequest) : s.Confines (s.setRoot { s.root with haltRecord := s.root.haltRecord.append n }) :=
    .of_root rfl id (fun h => h.append n) fun h => h.append n
  have escalated (t : State) : t.Confines t.escalate := .of_root rfl id id id
  exact .ite (fun _ => (joined _).trans (escalated _)) fun _ => joined _

theorem processRecord_confines (r : RequestRecord) : s.Confines (s.processRecord r) := by
  unfold processRecord
  split
  case h_1 => exact s.addNotice_confines r false
  case h_2 | h_3 => exact s.decideHalt_confines r
  case h_4 | h_5 | h_6 | h_7 | h_8 | h_9 => exact s.addSecondary_confines r
  case h_10 | h_11 | h_12 | h_13 => exact s.addNotice_confines r true
  all_goals exact .refl s

theorem takeOwnRequest_confines : s.Confines s.takeOwnRequest := by
  unfold takeOwnRequest
  split
  · exact .refl s
  case h_2 i p _ =>
    have released : s.Confines (s.setRequests (s.requests.release i)) :=
      .of_requests rfl fun h => h.release i
    exact released.trans (processRecord_confines _ _)

theorem enterStranded_confines : s.Confines s.enterStranded := by
  have closed (t : State) : t.Confines (t.setRoot t.root.closeRecord) :=
    .of_root rfl id (fun ⟨hentries, hnotices, _⟩ => ⟨hentries, hnotices, fun h => nomatch h⟩) id
  exact .ite (fun _ => (closed _).after (.of_frame rfl)) fun _ => .of_frame rfl

/-! ### Emissions (R130 to R133, R145) -/

theorem decideHalt_listed (r : RequestRecord) : (s.decideHalt r).root.outstanding.length = s.root.outstanding.length := by
  simp [decideHalt, RootTimebase.clearHaltCurrent]

theorem processRecord_listed (r : RequestRecord) : (s.processRecord r).root.outstanding.length = s.root.outstanding.length := by
  unfold processRecord addSecondary escalate addNotice
  dsimp only
  (repeat' split) <;> simp [decideHalt_listed]

theorem takeOwnRequest_listed : s.takeOwnRequest.root.outstanding.length = s.root.outstanding.length := by
  unfold takeOwnRequest; split <;> simp [processRecord_listed]

theorem testGrant_listed : s.testGrant.root.outstanding.length = s.root.outstanding.length := by
  unfold testGrant; (repeat' split) <;> simp [decideHalt_listed]

theorem testGrant_confines : s.Confines s.testGrant :=
  .ite (fun _ => s.decideHalt_confines _) fun _ => .ite (fun _ => s.decideHalt_confines _) fun _ => .refl s

/-- A frame is listed where the list has room (R130, R133). -/
theorem sendBeat_confines (h : s.root.outstanding.length < 32) : s.Confines s.sendBeat := by
  have listed : s.Confines (s.setRoot { s.root with
      outstanding := s.root.outstanding ++ [s.listEntry s.composeBeat], nextSequence := (s.root.nextSequence + 1) % 256 }) :=
    .of_root rfl (fun hlist => hlist.of_listed h rfl rfl rfl) id id
  exact listed.trans (hand_confines _ _)

theorem emit_confines (h : s.root.outstanding.length < 32) : s.Confines s.emit := by
  have hroom : s.takeOwnRequest.root.outstanding.length < 32 := by rwa [takeOwnRequest_listed]
  by_cases hrun : s.takeOwnRequest.seq.runState = .run
  · have raised : s.Confines s.takeOwnRequest.raiseGrant := s.takeOwnRequest_confines.trans (.of_root rfl id id id)
    rw [emit_of_run hrun]
    exact (raised.trans (testGrant_confines _)).trans (sendBeat_confines _ (by rwa [testGrant_listed]))
  · rw [emit_of_not_run hrun]
    exact s.takeOwnRequest_confines.trans (sendBeat_confines _ hroom)

theorem emitOrDefer_confines : s.Confines s.emitOrDefer :=
  .ite (fun h => s.emit_confines (of_decide_eq_true h)) fun _ =>
    .of_root rfl id id fun ⟨hlost, hforeign, _, hdropped, htrip, hoverflow⟩ =>
      ⟨hlost, hforeign, raiseCount_le _ _, hdropped, htrip, hoverflow⟩

theorem emitDeferred_confines : s.Confines s.emitDeferred :=
  .ite (fun h => (emit_confines (s.setRoot { s.root with emissionDue := false }) (of_decide_eq_true h)).after (.of_root rfl id id id))
    fun _ => .refl s

theorem cadence_confines (spacing : Nat) : s.Confines (s.cadence spacing) :=
  .ite (fun _ => .ite (fun _ => s.emitDeferred_confines) fun _ =>
    .ite (fun _ => (emitOrDefer_confines _).after (.of_root rfl id id id)) fun _ => .of_root rfl id id id) fun _ => .refl s

theorem startRun_confines (target : Option Nat) : s.Confines (s.startRun target) := by
  refine (emitOrDefer_confines _).after (.of_root rfl (fun h => h.of_drop 0 ?_ rfl) (fun ⟨hentries, hnotices, _⟩ => ?_) id)
  · exact RootTimebase.clearHaltCurrent_sequences
  · exact ⟨hentries, hnotices, fun h => nomatch h⟩

/-! ### Returned frames and timeouts (R134 to R137, R141, R127, R136) -/

theorem measureRoundTrip_confines (e : OutstandingBeat) : s.Confines (s.measureRoundTrip e) :=
  .ite (fun _ =>
    .of_root rfl id id fun ⟨hlost, hforeign, hdeferred, hdropped, _, hoverflow⟩ =>
      ⟨hlost, hforeign, hdeferred, hdropped, Nat.min_le_right _ _, hoverflow⟩) fun _ => .refl s

theorem foldl_processSlot_confines (slots : List (Option RequestRecord)) : ∀ s : State, s.Confines (slots.foldl processSlot s) := by
  induction slots with
  | nil => exact .refl
  | cons slot rest ih =>
    intro s
    cases slot with
    | none => exact ih s
    | some r => exact (s.processRecord_confines r).trans (ih _)

theorem takeUnsync_confines (f : BeatFields) : s.Confines (s.takeUnsync f) :=
  .ite (fun _ => (decideHalt_confines _ _).after (.of_root rfl id id id)) fun _ => .of_root rfl id id id

theorem confirm_confines (f : BeatFields) (haltCurrent : Bool) : s.Confines (s.confirm f haltCurrent) :=
  .ite (fun _ => .ite (fun _ => s.enterStranded_confines) fun _ => .ite (fun _ => .of_frame rfl) fun _ => .refl s) fun _ => .refl s

theorem completeActivation_confines (f : BeatFields) (e : OutstandingBeat) : s.Confines (s.completeActivation f e) :=
  .ite (fun _ => .of_frame rfl) fun _ => .refl s

theorem processReturn_confines (f : BeatFields) (e : OutstandingBeat) : s.Confines (s.processReturn f e) := by
  have slots : s.Confines ((s.measureRoundTrip e).processSlots f) :=
    (s.measureRoundTrip_confines e).trans (foldl_processSlot_confines _ _)
  have confirmed := (slots.trans (takeUnsync_confines _ f)).trans (confirm_confines _ f (e.haltCurrent && s.seq.runState != .run))
  exact (completeActivation_confines _ f e).after (confirmed.trans (.of_root rfl id id id))

theorem takeHead_confines (f : BeatFields) : s.Confines (s.takeHead f) := by
  unfold takeHead
  split
  · exact .refl s
  case h_2 e rest hlist =>
    have taken : s.Confines (s.setRoot { s.root with outstanding := rest }) :=
      .of_root rfl (fun h => h.of_drop 1 (by simp [RootTimebase.sequences, hlist]) rfl) id id
    exact taken.trans (processReturn_confines _ f e)

theorem ringLoss_confines : s.Confines s.ringLoss :=
  .ite (fun _ => .refl s) fun _ => s.processRecord_confines _

/-- Entries older than the one a frame matches are lost, and counted (R134). -/
theorem takeBeat_confines (bytes : List Byte) : s.Confines (s.takeBeat bytes) := by
  unfold takeBeat
  dsimp only
  split
  · exact .of_root rfl id id fun ⟨hlost, _, hdeferred, hdropped, htrip, hoverflow⟩ =>
      ⟨hlost, raiseCount_le _ _, hdeferred, hdropped, htrip, hoverflow⟩
  · exact s.takeHead_confines _
  case h_3 j _ =>
    refine (takeHead_confines _ _).after ((ringLoss_confines _).after (.of_root rfl (fun h => h.of_drop (j + 1) ?_ rfl) id
      fun ⟨_, hforeign, hdeferred, hdropped, htrip, hoverflow⟩ => ?_))
    · simp [RootTimebase.sequences]
    · exact ⟨raiseCount_le _ _, hforeign, hdeferred, hdropped, htrip, hoverflow⟩

theorem returnTimedOut_confines : s.Confines s.returnTimedOut := by
  have silent : s.Confines s.silenced := by
    refine .of_root rfl (fun h => h.of_drop s.root.outstanding.length ?_ rfl) id
      fun ⟨_, hforeign, hdeferred, hdropped, htrip, hoverflow⟩ => ?_
    · simp [silenced, RootTimebase.sequences]
    · exact ⟨raiseCount_le _ _, hforeign, hdeferred, hdropped, htrip, hoverflow⟩
  have recorded := silent.trans (processRecord_confines _ (localCause 43 .brk s.seq.step))
  rw [returnTimedOut_eq]
  split
  case h_1 => exact recorded
  case h_2 => exact recorded.trans (enterStranded_confines _)
  all_goals exact silent

theorem expireOverdue_confines : s.Confines s.expireOverdue := by
  have returned : s.Confines (if s.returnOverdue then s.returnTimedOut else s) :=
    .ite (fun _ => s.returnTimedOut_confines) fun _ => .refl s
  exact .ite (fun _ => returned.then_frame rfl) fun _ => returned

/-! ### ORIGIN and RESET_PART (R148, R149, R171) -/

theorem announceOrigin_confines : s.Confines s.announceOrigin := by
  have told : s.Confines s.announced :=
    (s.performOrigin_confines (nextOrigin s.root.announcedOrigin)).trans
      (.of_root rfl (fun h => h.of_drop 0 RootTimebase.clearCurrent_sequences rfl)
        (fun ⟨hentries, hnotices, _⟩ => ⟨hentries, hnotices, fun h => nomatch h⟩) id)
  exact .ite (fun _ => told.trans (expireOverdue_confines _)) fun _ => told

theorem resetPart_confines : s.Confines s.resetPart := by
  have cleared : s.Confines (s.setRoot s.root.cleared) :=
    .of_root rfl (fun h => h.of_drop s.root.outstanding.length (by simp [RootTimebase.cleared, RootTimebase.sequences]) rfl)
      (fun _ => ⟨Nat.zero_le _, Nat.zero_le _, fun h => nomatch h⟩)
      fun ⟨hlost, hforeign, hdeferred, hdropped, htrip, _⟩ => ⟨hlost, hforeign, hdeferred, hdropped, htrip, Nat.zero_le _⟩
  unfold resetPart
  split
  · exact s.resetBlocks_confines
  · exact .ite (fun _ => cleared.trans (announceOrigin_confines _)) fun _ => cleared.trans (resetBlocks_confines _)

/-! ### Steps and strobes (R4, R5, R6, R15) -/

theorem computeStep_confines (watch : BitVec 16) (step : Nat) : s.Confines (s.computeStep watch step) := by
  have computed (tracks lanes cells events) {u : RequestUnit} (h : s.requests.CountLaw → u.CountLaw) :
      s.Confines ((((((s.setTracks tracks).setLanes lanes).setCells cells).setEvents events).setRequests u).setSeq
        { s.seq with step }) := .of_requests rfl h
  exact computed _ _ _ _ fun h => h.raiseEach _ _ _

theorem applyDue_confines (step : Nat) : s.Confines (s.applyDue step) := by
  unfold applyDue
  split
  · exact .refl s
  · exact .ite (fun _ => s.activate_confines _) fun _ => .refl s

theorem takeStep_confines (watch : BitVec 16) : s.Confines (s.takeStep watch) := by
  have computed := (s.applyDue_confines (s.seq.step + 1)).trans (computeStep_confines _ watch (s.seq.step + 1))
  exact .ite (fun _ => computed.trans (expireOverdue_confines _)) fun _ => computed

theorem underrun_confines : s.Confines s.underrun :=
  (raise_confines _ _ _ _).after (.of_seq rfl fun ⟨_, hsilence, hloss⟩ => ⟨raiseCount_le _ _, hsilence, hloss⟩)

theorem actOnStrobe_confines (watch : BitVec 16) : s.Confines (s.actOnStrobe watch) := by
  have ended (t : State) : t.Confines t.endHalting := .ite (fun _ => .of_frame rfl) fun _ => .refl t
  unfold actOnStrobe
  split
  case h_1 => exact .ite (fun _ => s.takeStep_confines watch) fun _ => s.underrun_confines
  case h_2 => exact .ite (fun _ => (s.takeStep_confines watch).trans (ended _)) fun _ => .refl s
  all_goals exact .refl s

theorem strobe_confines (watch : BitVec 16) (order : StrobeOrder) : s.Confines (s.strobe watch order) := by
  have struck : s.Confines s.struck := .of_frame rfl
  have loaded (t : State) : t.Confines t.paceLoaded := .of_frame rfl
  cases order
  case stepFirst => exact ((struck.trans (actOnStrobe_confines _ watch)).trans (cadence_confines _ _)).trans (loaded _)
  case emissionFirst => exact ((struck.trans (cadence_confines _ _)).trans (actOnStrobe_confines _ watch)).trans (loaded _)

/-! ### Beat and ENUM frames (R10, R103, R119, R126, R127) -/

/-- What a follower makes of the grant, halt and mode fields touches no count (R10). -/
theorem readFields_counts (q : Sequencer) (f : BeatFields) : (q.readFields f).underrunCount = q.underrunCount ∧
    (q.readFields f).silenceCount = q.silenceCount ∧ (q.readFields f).referenceLossCount = q.referenceLossCount := by
  unfold Sequencer.readFields Sequencer.readReady Sequencer.readRun Sequencer.readHalt Sequencer.readGrant
  dsimp only
  (repeat' split) <;> exact ⟨rfl, rfl, rfl⟩

theorem readBeatFields_confines (f : BeatFields) : s.Confines (s.readBeatFields f) := by
  have restarted : s.Confines s.watchdogRestarted := .of_frame rfl
  have synced : s.Confines (s.originRead f) :=
    .ite (fun _ => restarted.trans (performOrigin_confines _ _)) fun _ => restarted
  have read (t : State) : t.Confines (t.setSeq (t.seq.readFields f)) :=
    .of_frame (by simp [confined, readFields_counts])
  exact synced.trans (read _)

theorem placeRequest_confines (bytes : List Byte) : s.Confines (s.placeRequest bytes).1 := by
  unfold placeRequest
  (repeat' split)
  case h_1.isTrue i _ _ _ _ _ => exact .of_requests rfl fun h => h.release i
  all_goals exact .refl s

theorem passBeat_confines (bytes : List Byte) : s.Confines (s.passBeat bytes) := by
  have read := (s.readBeatFields_confines (readBeat bytes)).trans
    (readActivation_confines _ (readBeat bytes) (s.seq.mustOrigin (readBeat bytes)))
  exact (read.trans (placeRequest_confines _ bytes)).trans (hand_confines _ _)

theorem discardUnknown_confines : s.Confines s.discardUnknown :=
  .of_handler rfl id fun ⟨hchecks, _, hdrops⟩ => ⟨hchecks, raiseCount_le _ _, hdrops⟩

theorem takeEnum_confines (f : EnumFrame) : s.Confines (s.takeEnum f) := by
  unfold takeEnum
  split
  · unfold takePosition
    split <;> exact (hand_confines _ _).after (.of_frame rfl)
  · exact .ite (fun _ => .of_frame rfl) fun _ => s.discardUnknown_confines

/-! ### Service commands (R162, R166 to R169) -/

theorem writeField_confines {table : TableName} {index field v : Nat} {t : State} (hw : s.writeField table index field v = some t) :
    s.Confines t := by
  cases table <;> simp only [writeField] at hw
  case source =>
    split at hw
    · obtain ⟨u, hu, rfl⟩ := Option.map_eq_some_iff.mp hw
      exact s.setRequests_confines fun h => h.write hu
    · cases hw
  case mask =>
    obtain ⟨mask, -, rfl⟩ := Option.map_eq_some_iff.mp hw
    exact s.setRequests_confines fun h => h.writeMask mask
  case trackStaged | laneStaged | cellStaged =>
    split at hw
    · obtain ⟨x, -, rfl⟩ := Option.map_eq_some_iff.mp hw
      exact s.setStaged_confines _
    · cases hw
  case event =>
    split at hw
    · obtain ⟨x, -, rfl⟩ := Option.map_eq_some_iff.mp hw
      exact s.setEvents_confines _
    · cases hw
  case headerStaged =>
    obtain ⟨x, -, rfl⟩ := Option.map_eq_some_iff.mp hw
    exact s.setStaged_confines _
  case gate =>
    obtain ⟨x, -, rfl⟩ := Option.map_eq_some_iff.mp hw
    exact s.setEvents_confines _
  all_goals cases hw

theorem writeAt_confines (table : TableName) (index field v : Nat) : s.Confines (s.writeAt table index field v).state := by
  unfold writeAt
  (repeat' split)
  case h_2 hw => exact s.writeField_confines hw
  all_goals exact .refl s

theorem bitsAt_confines (table : TableName) (index field v : Nat) (change : Vector Bool 8 → Nat → Vector Bool 8)
    (reply : Vector Bool 8 → Nat) : s.Confines (s.bitsAt table index field v change reply).state := by
  unfold bitsAt refuse accept setBitLevels
  (repeat' split) <;> exact .of_frame rfl

theorem onTable_confines (f : ServiceFrame) {act : TableName → Answer} (hact : ∀ table, s.Confines (act table).state) :
    s.Confines (s.onTable f act).state := by
  unfold onTable
  split
  · exact .refl s
  · exact hact _

/-- A command at the cursor that answers OK only below the table's size moves the cursor to the size at most (R167). -/
theorem atCursor_confines (f : ServiceFrame) {act : TableName → Nat → Answer}
    (hact : ∀ table n, s.Confines (act table n).state)
    (hinside : ∀ table n, (act table n).status = .ok → n < table.size ∧ (act table n).state.cursor = s.cursor) :
    s.Confines (s.atCursor f act).state := by
  unfold atCursor Answer.advancing
  dsimp only
  (repeat' split)
  · exact .refl s
  case isFalse.isTrue hok =>
    obtain ⟨hsize, hcursor⟩ := hinside _ _ hok
    refine (hact _ _).trans (.of_cursor rfl ?_)
    rw [CursorLaw, setCursor_cursor, hcursor]
    exact hsize
  · exact hact _ _

theorem readAt_ok {table : TableName} {index field : Nat} (h : (s.readAt table index field).status = .ok) : index < table.size := by
  by_contra hsize
  simp [readAt, refuse, Nat.le_of_not_lt hsize] at h

theorem writeAt_ok {table : TableName} {index field v : Nat} (h : (s.writeAt table index field v).status = .ok) :
    index < table.size := by
  by_contra hsize
  simp [writeAt, refuse, Nat.le_of_not_lt hsize] at h

theorem writeAt_cursor (table : TableName) (index field v : Nat) : (s.writeAt table index field v).state.cursor = s.cursor := by
  unfold writeAt
  (repeat' split)
  case h_2 hw => exact (s.writeField_frame _ _ _ _ _ hw).2.2.2.1
  all_goals rfl

theorem serveCursor_confines (f : ServiceFrame) : s.Confines (s.serveCursor f).state :=
  s.onTable_confines f fun table => by
    split
    · exact .refl s
    · exact .of_cursor rfl (Nat.le_of_not_lt ‹_›)

theorem serveEnumerate_confines : s.Confines s.serveEnumerate.state := by
  unfold serveEnumerate
  (repeat' split)
  case h_1.isFalse | h_2.isFalse => exact (s.hand_confines (writtenEnum firstEnumFrame)).then_frame rfl
  all_goals exact .refl s

theorem tryRun_confines (target : Option Nat) (reply : Nat) : s.Confines (s.tryRun target reply).state := by
  unfold tryRun
  split
  · exact .refl s
  · exact s.startRun_confines target

theorem serveTakeNotice_confines : s.Confines s.serveTakeNotice.state := by
  unfold serveTakeNotice
  split
  · exact .refl s
  case h_2 n rest hnotices =>
    refine .of_root rfl id (fun ⟨hentries, hlength, hprimary⟩ => ⟨hentries, ?_, hprimary⟩) id
    rw [hnotices] at hlength
    exact Nat.le_of_succ_le hlength

theorem perform_confines (c : CommandName) (f : ServiceFrame) : s.Confines (s.perform c f).state := by
  cases c <;> simp only [perform]
  case read => exact s.onTable_confines f fun _ => by rw [readAt_state]; exact .refl s
  case write => exact s.onTable_confines f fun _ => s.writeAt_confines _ _ _ _
  case cursor => exact s.serveCursor_confines f
  case readNext =>
    exact s.atCursor_confines f (fun _ _ => by rw [readAt_state]; exact .refl s) fun _ _ hok => ⟨s.readAt_ok hok, by rw [readAt_state]⟩
  case writeNext =>
    exact s.atCursor_confines f (fun _ _ => s.writeAt_confines _ _ _ _) fun _ _ hok => ⟨s.writeAt_ok hok, s.writeAt_cursor _ _ _ _⟩
  case setBits | clearBits | testSet => exact s.onTable_confines f fun _ => s.bitsAt_confines _ _ _ _ _ _
  case resetPart => exact s.resetPart_confines
  case takeNotice => exact s.serveTakeNotice_confines
  case enumerate => exact s.serveEnumerate_confines
  case origin => unfold serveOrigin; (repeat' split) <;> first | exact .refl s | exact s.announceOrigin_confines
  case run => unfold serveRun; split <;> first | exact s.tryRun_confines _ _ | exact .refl s
  case runFor =>
    unfold serveRunFor
    dsimp only
    (repeat' split) <;> first | exact s.tryRun_confines _ _ | exact .refl s | exact .of_root rfl id id id
  case pause => unfold servePause; split <;> first | exact s.processRecord_confines _ | exact .refl s
  case copyLive => unfold serveCopyLive; (repeat' split) <;> exact .of_frame rfl
  case clearBreak => unfold serveClearBreak; split <;> first | exact .refl s | exact .of_root rfl id id id
  case swap => unfold serveSwap; (repeat' split) <;> exact .of_frame rfl

theorem takeService_confines (code : BitVec 8) (f : ServiceFrame) : s.Confines (s.takeService code f) := by
  have answered : s.Confines (s.answer code f).state := by
    unfold answer
    (repeat' split)
    case isFalse.isFalse => exact s.perform_confines _ f
    all_goals exact .refl s
  exact .ite (fun _ => answered.trans (hand_confines _ _)) fun _ => s.hand_confines _

/-! ### Arrivals (R110, R113 to R115, R176) -/

theorem discardFailed_confines : s.Confines s.discardFailed :=
  (raise_confines _ _ _ _).after (.of_handler rfl id fun ⟨_, hunknowns, hdrops⟩ => ⟨raiseCount_le _ _, hunknowns, hdrops⟩)

theorem takeFrame_confines (bytes : List Byte) : s.Confines (s.takeFrame bytes) := by
  have beat (frame : List Byte) : s.Confines (s.dispatchBeat frame) := by
    unfold dispatchBeat
    split
    · exact s.passBeat_confines frame
    · exact s.takeBeat_confines frame
  refine .ite (fun _ => ?_) fun _ => s.discardFailed_confines
  unfold dispatch
  split
  case h_1 => exact s.discardUnknown_confines
  case h_2 => exact .ite (fun _ => s.discardUnknown_confines) fun _ => beat _
  case h_3 => exact s.takeService_confines _ _
  case h_4 => exact s.takeEnum_confines _

theorem onArrival_confines {act : State → State} (hact : ∀ t : State, t.Confines (act t)) : s.Confines (s.onArrival act) :=
  .ite (fun _ => (s.setReception_confines _).trans (hact _)) fun _ => s.setReception_confines _

theorem frameCompletedEarly_confines (bytes : List Byte) : s.Confines (s.frameCompletedEarly bytes) :=
  .ite (fun _ => (s.setReception_confines _).trans (takeFrame_confines _ bytes)) fun _ => .refl s

/-! ### The reference, the watchdog and time (R7, R17) -/

theorem loseReference_confines : s.Confines s.loseReference := by
  have lost : s.Confines (s.setSeq { s.seq with
      referencePresent := false, strobeCount := 0, referenceLost := true
      referenceLossCount := raiseCount s.seq.referenceLossCount 1 }) :=
    .of_seq rfl fun ⟨hunderrun, hsilence, _⟩ => ⟨hunderrun, hsilence, raiseCount_le _ _⟩
  unfold loseReference
  dsimp only
  split
  case h_1 => exact .of_frame rfl
  case h_2 | h_3 => exact lost.trans (enterStranded_confines _)
  all_goals exact lost

theorem expireWatchdog_confines : s.Confines s.expireWatchdog := by
  have expired : s.Confines (s.setSeq { s.seq with watchdog := .expired, silenceCount := raiseCount s.seq.silenceCount 1 }) :=
    .of_seq rfl fun ⟨hunderrun, _, hloss⟩ => ⟨hunderrun, raiseCount_le _ _, hloss⟩
  unfold expireWatchdog
  dsimp only
  split
  case h_1 | h_2 => exact expired.trans (enterStranded_confines _)
  all_goals exact expired.then_frame rfl

theorem tick_confines : s.Confines s.tick := by
  have ticked (t : State) (bytes : List Byte) : t.Confines (t.setHandler (t.handler.bytesTicked bytes)) := by
    unfold FrameHandler.bytesTicked
    split <;> exact .of_frame rfl
  unfold tick referencePeriod microsecond timersTicked
  dsimp only
  (repeat' split)
  case isFalse => exact ((ticked _ _).after (.of_frame rfl)).then_frame rfl
  all_goals exact .of_frame rfl

end State

/-! ### Every command -/

theorem Effect.confines {s t : State} {c : Instr} (h : Effect s c t) :
    s.Confines t ∨ ∃ cause level, t = s.hardwareReset cause level := by
  cases h
  case reset cause level _ => exact .inr ⟨cause, level, rfl⟩
  all_goals refine .inl ?_
  case loss => exact s.loseReference_confines
  case watchdog => exact s.expireWatchdog_confines
  case strobe watch order _ => exact s.strobe_confines watch order
  case deferred => exact s.emitDeferred_confines
  case returnTimeout => exact s.returnTimedOut_confines
  case enum f _ => exact s.onArrival_confines fun t => t.takeEnum_confines f
  case transmitDone =>
    exact .of_handler rfl (s.handler.transmitDone_queue_length.trans ·) fun hc => hc.transmitDone
  case service code f _ => exact s.onArrival_confines fun t => t.takeService_confines code f
  case arrival bytes _ => exact s.onArrival_confines fun t => t.takeFrame_confines bytes
  case early bytes _ => exact s.frameCompletedEarly_confines bytes
  case cut bytes _ => exact (s.frameCompletedEarly_confines bytes).then_frame rfl
  case leave strap _ => cases strap <;> exact .of_frame rfl
  all_goals exact .of_frame rfl

/-- Settles O13: a tick and every command but the hardware resets confine the queues, the lists and the counts; a hardware reset leaves
them as after power-on. -/
theorem stepKeepsQueueLaw : Obligations.StepKeepsQueueLaw := by
  intro s t h
  unfold step at h
  split at h
  · cases h
    exact s.tick_confines.laws
  case h_2 c rest _ =>
    rcases (effect_of_exec h).confines with hconfines | ⟨cause, level, rfl⟩
    · exact hconfines.laws (s := s.setPending rest)
    · exact ⟨fun _ => State.reset_queueLaw, fun _ => Nat.zero_le _, fun _ => State.reset_countLaw⟩

end Sys2Proof.Machine
end

section
/-! SUPPORT. Frames as bytes: fields and windows of bytes, the check, the slots of a beat frame, and what reading finds of what was written
(R113 to R118). -/

namespace Sys2Proof.Machine

/-! ### Fields of several bytes -/

@[simp] theorem length_bytesOf (k n : Nat) : (bytesOf k n).length = k := by
  induction k generalizing n with
  | zero => rfl
  | succ k ih => simp [bytesOf, ih]

/-- The low `k` bytes of a number spell it modulo 256^k. -/
theorem numberOf_bytesOf (k n : Nat) : numberOf (bytesOf k n) = n % 256 ^ k := by
  induction k generalizing n with
  | zero => simp [bytesOf, numberOf, Nat.mod_one]
  | succ k ih =>
    have hsplit : numberOf (bytesOf (k + 1) n) = numberOf (bytesOf k (n / 256)) * 256 + n % 256 := by
      simp [bytesOf, numberOf]
    rw [hsplit, ih, Nat.pow_succ', Nat.mod_mul]
    omega

theorem numberOf_bytesOf_of_lt {k n : Nat} (h : n < 256 ^ k) : numberOf (bytesOf k n) = n := by
  rw [numberOf_bytesOf, Nat.mod_eq_of_lt h]

/-- A field of one byte is that byte. -/
theorem numberOf_singleton (b : Byte) : numberOf [b] = b.toNat := by
  simp [numberOf]

/-! ### The check (R114) -/

@[simp] theorem length_withCheck (content : List Byte) : (withCheck content).length = content.length + 2 := by
  simp [withCheck]

@[simp] theorem contentOf_withCheck (content : List Byte) : contentOf (withCheck content) = content := by
  simp [contentOf, withCheck]

/-- A frame with its check is good if its length is its type's. -/
theorem frameGood_withCheck {content : List Byte} (h : lengthMeets (withCheck content) = true) :
    frameGood (withCheck content) = true := by
  have hcheck : fieldAt (withCheck content) content.length 2 = (checkValue content).toNat := by
    have hbytes : ((withCheck content).drop content.length).take 2 = bytesOf 2 (checkValue content).toNat := by
      rw [withCheck, List.drop_left, List.take_of_length_le (by simp)]
    rw [fieldAt, hbytes, numberOf_bytesOf_of_lt (checkValue content).isLt]
  simp [frameGood, h, hcheck]

theorem lengthMeets_of_type {bytes : List Byte} {t : FrameType} (ht : frameType bytes = some t) (hlength : bytes.length = t.length) :
    lengthMeets bytes = true := by
  cases t <;> simp [lengthMeets, ht, hlength, FrameType.length]

/-- A frame with its check, of a known type and of its length, is good. -/
theorem frameGood_of_type {content : List Byte} {t : FrameType} (ht : frameType (withCheck content) = some t)
    (hlength : content.length + 2 = t.length) : frameGood (withCheck content) = true :=
  frameGood_withCheck (lengthMeets_of_type ht (by rw [length_withCheck, hlength]))

/-! ### The flag byte of a beat frame (R116) -/

/-- The flag byte holds its mode code and its five flags, each at its place. -/
theorem flagByte_bits (mode : Fin 4) (haltKind originFlag activateFlag reached unsync : Bool) :
    let flags := flagByte mode haltKind originFlag activateFlag reached unsync
    flags.toNat / 64 = mode ∧ flags.getLsbD 5 = haltKind ∧ flags.getLsbD 4 = originFlag ∧ flags.getLsbD 3 = activateFlag ∧
      flags.getLsbD 2 = reached ∧ flags.getLsbD 1 = unsync := by
  revert mode haltKind originFlag activateFlag reached unsync
  decide

/-! ### Slots (R117) -/

theorem length_writtenSlot (r : Option RequestRecord) : (writtenSlot r).length = 9 := by
  cases r <;> simp [writtenSlot]

/-- A record that a slot can hold: its position and its source are ones that no part takes for impossible (R115, R117). -/
structure RequestRecord.Placeable (r : RequestRecord) : Prop where
  position : r.position < 63
  source : r.source < 36 ∨ 40 ≤ r.source ∧ r.source < 46

section slot

variable {r : RequestRecord}

theorem slotOccupied_none : slotOccupied (writtenSlot none) = false := by decide

theorem slotOccupied_written (r : RequestRecord) : slotOccupied (writtenSlot (some r)) = true := by
  have hbit : (128 + r.position % 64) / 2 ^ 7 % 2 = 1 := by omega
  simp only [slotOccupied, byteAt, writtenSlot, List.cons_append, List.getD_cons_zero, BitVec.getLsbD_ofNat,
    Nat.testBit_eq_decide_div_mod_eq, hbit]
  rfl

theorem slotPosition_written (h : r.Placeable) : slotPosition (writtenSlot (some r)) = r.position := by
  have := h.position
  simp only [slotPosition, byteAt, writtenSlot, List.cons_append, List.getD_cons_zero, BitVec.toNat_ofNat]
  omega

theorem slotSource_written (h : r.Placeable) : slotSource (writtenSlot (some r)) = r.source := by
  have := h.source
  simp only [slotSource, byteAt, writtenSlot, List.cons_append, List.getD_cons_succ, List.getD_cons_zero, BitVec.toNat_ofNat]
  omega

theorem Kind.slotCode_lt (k : Kind) : k.slotCode < 3 := by cases k <;> decide

theorem slotKindCode_written (r : RequestRecord) : slotKindCode (writtenSlot (some r)) = r.kind.slotCode := by
  have := r.kind.slotCode_lt
  simp only [slotKindCode, byteAt, writtenSlot, List.cons_append, List.getD_cons_succ, List.getD_cons_zero, BitVec.toNat_ofNat]
  omega

theorem slotImpossible_written (h : r.Placeable) : slotImpossible (writtenSlot (some r)) = false := by
  have := h.position
  have := h.source
  have := r.kind.slotCode_lt
  rw [slotImpossible, slotKindCode_written, slotSource_written h, slotPosition_written h]
  simp
  omega

theorem slotRecord_written (h : r.Placeable) (hlevel : r.level < 4) (hcause : r.causeStep < 2 ^ 48) (hmerged : r.merged < 16) :
    slotRecord (writtenSlot (some r)) = some r := by
  have hlevel' : (byteAt (writtenSlot (some r)) 1).toNat % 4 = r.level := by
    have := h.source
    simp only [byteAt, writtenSlot, List.cons_append, List.getD_cons_succ, List.getD_cons_zero, BitVec.toNat_ofNat]
    omega
  have hmerged' : (byteAt (writtenSlot (some r)) 2).toNat % 16 = r.merged := by
    have := r.kind.slotCode_lt
    simp only [byteAt, writtenSlot, List.cons_append, List.getD_cons_succ, List.getD_cons_zero, BitVec.toNat_ofNat]
    omega
  have hcause' : fieldAt (writtenSlot (some r)) 3 6 = r.causeStep :=
    (numberOf_bytesOf 6 r.causeStep).trans (Nat.mod_eq_of_lt (by norm_num at hcause ⊢; exact hcause))
  have hkind : (Kind.ofSlotCode r.kind.slotCode).getD .mark = r.kind := by cases r.kind <;> rfl
  rw [slotRecord, slotOccupied_written, if_pos rfl, slotPosition_written h, slotSource_written h, slotKindCode_written, hlevel',
    hmerged', hcause', hkind]

end slot

/-! ### Windows of bytes -/

/-- Two frames that agree in every byte of a window have the same window. -/
theorem window_congr {p q : List Byte} {a k : Nat} (h : ∀ i, a ≤ i → i < a + k → p[i]? = q[i]?) :
    (p.drop a).take k = (q.drop a).take k := by
  refine List.ext_getElem? fun i => ?_
  simp only [List.getElem?_take, List.getElem?_drop]
  split
  · exact h (a + i) (by omega) (by omega)
  · rfl

/-- The rows of a table of rows of equal length, written one after the other. -/
theorem row_flatten {n : Nat} {rows : List (List Byte)} (h : ∀ row ∈ rows, row.length = n) (rest : List Byte) {k : Nat}
    (hk : k < rows.length) : ((rows.flatten ++ rest).drop (n * k)).take n = rows[k] := by
  induction rows generalizing k with
  | nil => simp at hk
  | cons row rows ih =>
    have hrow : row.length = n := h row (by simp)
    rw [List.flatten_cons, List.append_assoc]
    cases k with
    | zero => simp [← hrow]
    | succ k =>
      have hdrop : n * (k + 1) = row.length + n * k := by rw [hrow]; ring
      rw [hdrop, List.drop_append, List.drop_of_length_le (by omega), Nat.add_sub_cancel_left]
      exact ih (fun r hr => h r (List.mem_cons_of_mem _ hr)) (by simpa using hk)

end Sys2Proof.Machine
end

section
/-! SUPPORT. Written frames read back as their contents (R113 to R118): what FramesReadBack asks. -/

namespace Sys2Proof.Machine

/-! ### Beat frames -/

/-- The contents that a beat frame can have (R116, R117): every number fits its field, and every record its slot. -/
structure BeatFields.Writable (f : BeatFields) : Prop where
  sequence : f.sequence < 256
  originNumber : f.originNumber < 256
  stage : f.stage < 256
  activationStep : f.activationStep < 2 ^ 48
  grant : f.grant < 2 ^ 48
  haltStep : f.haltStep < 2 ^ 48
  slots : ∀ k : Fin 4, ∀ r ∈ f.slots[k], r.Placeable ∧ r.level < 4 ∧ r.causeStep < 2 ^ 48 ∧ r.merged < 16

/-- The bytes of a beat frame before its slots. -/
def writtenFront (f : BeatFields) : List Byte :=
  [1, BitVec.ofNat 8 f.sequence, flagByte f.mode.code (f.haltKind == .brk) f.originFlag f.activateFlag f.reached f.unsync,
      BitVec.ofNat 8 f.originNumber, BitVec.ofNat 8 f.stage] ++
    bytesOf 6 f.activationStep ++ bytesOf 6 f.grant ++ bytesOf 6 f.haltStep

theorem length_writtenFront (f : BeatFields) : (writtenFront f).length = 23 := by simp [writtenFront]

theorem writtenBeat_eq (f : BeatFields) : writtenBeat f = withCheck (writtenFront f ++ (f.slots.toList.map writtenSlot).flatten) := rfl

theorem length_writtenContent (f : BeatFields) : (writtenFront f ++ (f.slots.toList.map writtenSlot).flatten).length = 59 := by
  have hrows : (f.slots.toList.map writtenSlot).map List.length = List.replicate 4 9 := by
    rw [List.map_map, List.eq_replicate_iff]
    simp [length_writtenSlot]
  rw [List.length_append, length_writtenFront, List.length_flatten, hrows]
  rfl

theorem length_writtenBeat (f : BeatFields) : (writtenBeat f).length = 61 := by
  rw [writtenBeat_eq, length_withCheck, length_writtenContent]

theorem frameGood_writtenBeat (f : BeatFields) : frameGood (writtenBeat f) = true :=
  frameGood_of_type (t := .beat) rfl (by rw [← writtenFront, length_writtenContent]; rfl)

theorem slotBytes_writtenBeat (f : BeatFields) (k : Fin 4) : slotBytes (writtenBeat f) k = writtenSlot f.slots[k] := by
  have hk : k.val < (f.slots.toList.map writtenSlot).length := by simp
  have hrows : ∀ row ∈ f.slots.toList.map writtenSlot, row.length = 9 := by simp [length_writtenSlot]
  rw [slotBytes, writtenBeat_eq, withCheck, List.append_assoc, ← List.drop_drop, List.drop_left' (length_writtenFront f),
    row_flatten hrows _ hk]
  simp

/-- The flag byte of a written beat frame, bit by bit. -/
theorem flagByte_writtenBeat (f : BeatFields) :
    modeCode (writtenBeat f) = f.mode.code ∧ (byteAt (writtenBeat f) 2).getLsbD 5 = (f.haltKind == .brk) ∧
      (byteAt (writtenBeat f) 2).getLsbD 4 = f.originFlag ∧ (byteAt (writtenBeat f) 2).getLsbD 3 = f.activateFlag ∧
      (byteAt (writtenBeat f) 2).getLsbD 2 = f.reached ∧ (byteAt (writtenBeat f) 2).getLsbD 1 = f.unsync := by
  have hmode : f.mode.code < 4 := by cases f.mode <;> decide
  exact flagByte_bits ⟨f.mode.code, hmode⟩ _ _ _ _ _

theorem BeatMode.ofCode_code (m : BeatMode) : BeatMode.ofCode m.code = some m := by cases m <;> rfl

theorem HaltKind.ofBit_isBrk (k : HaltKind) : HaltKind.ofBit (k == .brk) = k := by cases k <;> rfl

section fields

variable {f : BeatFields}

theorem fieldAt_byte {bytes : List Byte} {at_ n : Nat} (hbytes : (bytes.drop at_).take 1 = [BitVec.ofNat 8 n]) (hn : n < 256) :
    fieldAt bytes at_ 1 = n := by
  rw [fieldAt, hbytes, numberOf_singleton, BitVec.toNat_ofNat, Nat.mod_eq_of_lt (by simpa using hn)]

theorem fieldAt_step {bytes : List Byte} {at_ n : Nat} (hbytes : (bytes.drop at_).take 6 = bytesOf 6 n) (hn : n < 2 ^ 48) :
    fieldAt bytes at_ 6 = n := by
  rw [fieldAt, hbytes]
  exact numberOf_bytesOf_of_lt (by norm_num at hn ⊢; exact hn)

theorem BeatFields.Writable.slotRecord (h : f.Writable) (k : Fin 4) : slotRecord (slotBytes (writtenBeat f) k) = f.slots[k] := by
  rw [slotBytes_writtenBeat]
  cases hslot : f.slots[k] with
  | none => rw [Machine.slotRecord, slotOccupied_none]; rfl
  | some r =>
    obtain ⟨hr, hlevel, hcause, hmerged⟩ := h.slots k r hslot
    exact slotRecord_written hr hlevel hcause hmerged

theorem BeatFields.Writable.slotImpossible (h : f.Writable) (k : Fin 4) : slotImpossible (slotBytes (writtenBeat f) k) = false := by
  rw [slotBytes_writtenBeat]
  cases hslot : f.slots[k] with
  | none => rw [Machine.slotImpossible, slotOccupied_none, Bool.false_and]
  | some r => exact slotImpossible_written (h.slots k r hslot).1

theorem BeatFields.Writable.beatImpossible (h : f.Writable) : beatImpossible (writtenBeat f) = false := by
  have hmode : (modeCode (writtenBeat f) == 3) = false := by
    rw [(flagByte_writtenBeat f).1]; cases f.mode <;> rfl
  have hslots : ∀ k ∈ [0, 1, 2, 3], Machine.slotImpossible (slotBytes (writtenBeat f) k) = false := by
    intro k hk
    exact h.slotImpossible ⟨k, by simp at hk; omega⟩
  rw [Machine.beatImpossible, hmode, Bool.false_or, List.any_eq_false]
  simpa using hslots

theorem BeatFields.Writable.readBeat (h : f.Writable) : readBeat (writtenBeat f) = f := by
  obtain ⟨hmode, hkind, horigin, hactivate, hreached, hunsync⟩ := flagByte_writtenBeat f
  have hslots : (tabulate fun k : Fin 4 => Machine.slotRecord (slotBytes (writtenBeat f) k)) = f.slots :=
    Vector.ext fun i hi => (getElem_tabulate _ i hi).trans (h.slotRecord ⟨i, hi⟩)
  simp only [Machine.readBeat, hmode, hkind, horigin, hactivate, hreached, hunsync, hslots, BeatMode.ofCode_code, Option.getD_some,
    HaltKind.ofBit_isBrk, fieldAt_byte (bytes := writtenBeat f) (at_ := 1) rfl h.sequence,
    fieldAt_byte (bytes := writtenBeat f) (at_ := 3) rfl h.originNumber, fieldAt_byte (bytes := writtenBeat f) (at_ := 4) rfl h.stage,
    fieldAt_step (bytes := writtenBeat f) (at_ := 5) rfl h.activationStep,
    fieldAt_step (bytes := writtenBeat f) (at_ := 11) rfl h.grant, fieldAt_step (bytes := writtenBeat f) (at_ := 17) rfl h.haltStep]

end fields

/-! ### Service and ENUM frames -/

/-- A byte of two fields, six bits in its low part, reads back as them. -/
theorem extractLsb'_append (a : BitVec 2) (b : BitVec 6) :
    ((a ++ b : BitVec 8).extractLsb' 6 2 = a) ∧ (a ++ b : BitVec 8).extractLsb' 0 6 = b := by
  constructor
  · ext i hi
    rw [BitVec.getElem_extractLsb']
    exact (BitVec.getLsbD_append (x := a) (y := b)).trans (by simp [hi])
  · ext i hi
    rw [BitVec.getElem_extractLsb']
    exact (BitVec.getLsbD_append (x := a) (y := b)).trans (by simp [hi])

/-- A word written whole into a field of its size reads back. -/
theorem ofNat_numberOf_bytesOf {w : Nat} {k : Nat} (hw : 2 ^ w = 256 ^ k) (x : BitVec w) :
    BitVec.ofNat w (numberOf (bytesOf k x.toNat)) = x := by
  rw [numberOf_bytesOf_of_lt (hw ▸ x.isLt), BitVec.ofNat_toNat, BitVec.setWidth_eq]

theorem frameGood_writtenService (code : BitVec 8) (f : ServiceFrame) : frameGood (writtenService code f) = true :=
  frameGood_of_type (t := .service) rfl (by simp [FrameType.length])

theorem readService_writtenService (code : BitVec 8) (f : ServiceFrame) : readService (writtenService code f) = f := by
  obtain ⟨hreserved, hdestination⟩ := extractLsb'_append f.reserved f.destination
  have hindex : BitVec.ofNat 16 (fieldAt (writtenService code f) 5 2) = f.index := ofNat_numberOf_bytesOf (k := 2) rfl f.index
  have hvalue : BitVec.ofNat 32 (fieldAt (writtenService code f) 9 4) = f.value := ofNat_numberOf_bytesOf (k := 4) rfl f.value
  have hreply : BitVec.ofNat 32 (fieldAt (writtenService code f) 14 4) = f.replyValue :=
    ofNat_numberOf_bytesOf (k := 4) rfl f.replyValue
  have hbyte2 : byteAt (writtenService code f) 2 = f.reserved ++ f.destination := rfl
  rw [readService, hbyte2, hreserved, hdestination, hindex, hvalue, hreply]
  rfl

theorem frameGood_writtenEnum (f : EnumFrame) : frameGood (writtenEnum f) = true := frameGood_of_type (t := .enum) rfl rfl

theorem readEnum_writtenEnum (f : EnumFrame) : readEnum (writtenEnum f) = f := by
  obtain ⟨hreserved, hposition⟩ := extractLsb'_append f.reserved f.nextPosition
  have hbyte1 : byteAt (writtenEnum f) 1 = f.reserved ++ f.nextPosition := rfl
  rw [readEnum, hbyte1, hreserved, hposition]
  rfl

/-- Settles O33: each field's window of a written frame holds the bytes that spell the field. -/
theorem framesReadBack : Obligations.FramesReadBack := by
  unfold Obligations.FramesReadBack
  refine ⟨fun f hsequence horigin hstage hactivation hgrant hhalt hslots => ?_, fun code f => ?_, fun f => ?_⟩
  · have hf : f.Writable := by
      refine ⟨hsequence, horigin, hstage, hactivation, hgrant, hhalt, fun k r hr => ?_⟩
      obtain ⟨hposition, hsource, hrest⟩ := hslots k r hr
      exact ⟨⟨hposition, hsource⟩, hrest⟩
    exact ⟨length_writtenBeat f, frameGood_writtenBeat f, rfl, hf.beatImpossible, hf.readBeat⟩
  · exact ⟨by simp [writtenService], frameGood_writtenService code f, rfl, rfl, readService_writtenService code f⟩
  · exact ⟨rfl, frameGood_writtenEnum f, rfl, readEnum_writtenEnum f⟩

end Sys2Proof.Machine
end

section
/-! SUPPORT. The frame a follower sends on: bytes rewritten within a frame, and the check computed anew (R104, R116, R122, R123). -/

namespace Sys2Proof.Machine

/-! ### Bytes rewritten in place -/

/-- The two frames have the same bytes before their check, but for the `n` bytes from `at_` on. -/
def AgreeOff (at_ n : Nat) (p q : List Byte) : Prop := ∀ i < 59, ¬ (at_ ≤ i ∧ i < at_ + n) → q[i]? = p[i]?

section agree

variable {at_ n : Nat} {p q : List Byte}

theorem AgreeOff.window (h : AgreeOff at_ n p q) {a k : Nat} (hcheck : a + k ≤ 59) (hoff : a + k ≤ at_ ∨ at_ + n ≤ a) :
    (q.drop a).take k = (p.drop a).take k :=
  window_congr fun i _ _ => h i (by omega) (by omega)

theorem AgreeOff.fieldAt (h : AgreeOff at_ n p q) {a k : Nat} (hcheck : a + k ≤ 59) (hoff : a + k ≤ at_ ∨ at_ + n ≤ a) :
    fieldAt q a k = fieldAt p a k := by
  rw [Machine.fieldAt, h.window hcheck hoff, Machine.fieldAt]

theorem AgreeOff.byteAt (h : AgreeOff at_ n p q) {i : Nat} (hi : i < 59) (hoff : ¬ (at_ ≤ i ∧ i < at_ + n)) :
    byteAt q i = byteAt p i := by
  rw [Machine.byteAt, Machine.byteAt, List.getD_eq_getElem?_getD, List.getD_eq_getElem?_getD, h i hi hoff]

theorem AgreeOff.slotBytes (h : AgreeOff at_ n p q) {k : Nat} (hk : k < 4) (hoff : 32 + 9 * k ≤ at_ ∨ at_ + n ≤ 23 + 9 * k) :
    slotBytes q k = slotBytes p k :=
  h.window (by omega) (by omega)

end agree

theorem getElem?_patch {bytes new : List Byte} {at_ : Nat} (hat : at_ ≤ bytes.length) (i : Nat) :
    (patch bytes at_ new)[i]? = if at_ ≤ i ∧ i < at_ + new.length then new[i - at_]? else bytes[i]? := by
  simp only [patch, List.getElem?_append, List.length_append, List.length_take, Nat.min_eq_left hat, List.getElem?_take,
    List.getElem?_drop]
  grind

theorem length_patch {bytes new : List Byte} {at_ : Nat} (h : at_ + new.length ≤ bytes.length) :
    (patch bytes at_ new).length = bytes.length := by
  simp [patch]
  omega

theorem patch_agreeOff {bytes new : List Byte} {at_ : Nat} (hat : at_ ≤ bytes.length) :
    AgreeOff at_ new.length bytes (patch bytes at_ new) :=
  fun i _ hoff => by rw [getElem?_patch hat, if_neg hoff]

/-- The bytes written in place stand there. -/
theorem window_patch {bytes new : List Byte} {at_ : Nat} (hat : at_ ≤ bytes.length) :
    ((patch bytes at_ new).drop at_).take new.length = new := by
  refine List.ext_getElem? fun i => ?_
  rw [List.getElem?_take, List.getElem?_drop, getElem?_patch hat]
  by_cases hi : i < new.length
  · simp [hi]
  · rw [if_neg hi, List.getElem?_eq_none (by omega)]

/-! ### The check computed anew (R123) -/

theorem length_contentOf {bytes : List Byte} (h : bytes.length = 61) : (contentOf bytes).length = 59 := by
  simp [contentOf, h]

theorem length_rechecked {bytes : List Byte} (h : bytes.length = 61) : (rechecked bytes).length = 61 := by
  rw [rechecked, length_withCheck, length_contentOf h]

theorem getElem?_rechecked {bytes : List Byte} (h : bytes.length = 61) {i : Nat} (hi : i < 59) : (rechecked bytes)[i]? = bytes[i]? := by
  rw [rechecked, withCheck, List.getElem?_append_left (by rw [length_contentOf h]; exact hi), contentOf,
    List.getElem?_take_of_lt (by omega)]

theorem frameGood_rechecked {bytes : List Byte} (h : bytes.length = 61) (ht : frameType (rechecked bytes) = some .beat) :
    frameGood (rechecked bytes) = true :=
  frameGood_of_type ht (by rw [length_contentOf h]; rfl)

/-! ### REACHED and UNSYNC (R122) -/

section summary

variable {bytes : List Byte} (h : bytes.length = 61) (reached unsync : Bool)
include h

theorem rewriteSummary_agreeOff : AgreeOff 2 1 bytes (rechecked (rewriteSummary bytes reached unsync)) := by
  intro i hi hoff
  have hlength : (rewriteSummary bytes reached unsync).length = 61 := (length_patch (by simp [h])).trans h
  rw [getElem?_rechecked hlength hi, rewriteSummary, getElem?_patch (by omega), if_neg (by simpa using hoff)]

/-- The mode, the kind and the other flags stay beside the rewritten bits. -/
theorem flags_rewriteSummary :
    let out := rechecked (rewriteSummary bytes reached unsync)
    modeCode out = modeCode bytes ∧ (byteAt out 2).getLsbD 5 = (byteAt bytes 2).getLsbD 5 ∧
      (byteAt out 2).getLsbD 4 = (byteAt bytes 2).getLsbD 4 ∧ (byteAt out 2).getLsbD 3 = (byteAt bytes 2).getLsbD 3 ∧
      (byteAt out 2).getLsbD 2 = reached ∧ (byteAt out 2).getLsbD 1 = unsync := by
  have hlength : (rewriteSummary bytes reached unsync).length = 61 := (length_patch (by simp [h])).trans h
  have hbyte : byteAt (rechecked (rewriteSummary bytes reached unsync)) 2 =
      flagByte (modeCode bytes) ((byteAt bytes 2).getLsbD 5) ((byteAt bytes 2).getLsbD 4) ((byteAt bytes 2).getLsbD 3) reached unsync := by
    rw [byteAt, List.getD_eq_getElem?_getD, getElem?_rechecked hlength (by omega), rewriteSummary, getElem?_patch (by omega)]
    rfl
  have hmode : modeCode bytes < 4 := by
    have := (byteAt bytes 2).isLt
    rw [modeCode]
    omega
  dsimp only
  rw [modeCode, hbyte]
  exact flagByte_bits ⟨modeCode bytes, hmode⟩ _ _ _ _ _

/-- The frame with REACHED and UNSYNC rewritten reads back with these two alone changed. -/
theorem readBeat_rewriteSummary :
    readBeat (rechecked (rewriteSummary bytes reached unsync)) = { readBeat bytes with reached, unsync } := by
  have hagree := rewriteSummary_agreeOff h reached unsync
  obtain ⟨hmode, hkind, horigin, hactivate, hreached, hunsync⟩ := flags_rewriteSummary h reached unsync
  have hslots : (tabulate fun k : Fin 4 => slotRecord (slotBytes (rechecked (rewriteSummary bytes reached unsync)) k)) =
      tabulate fun k : Fin 4 => slotRecord (slotBytes bytes k) :=
    congrArg tabulate (funext fun k => by rw [hagree.slotBytes k.isLt (by omega)])
  have hfield {a k : Nat} (hcheck : a + k ≤ 59) (hoff : a + k ≤ 2 ∨ 3 ≤ a) := hagree.fieldAt hcheck hoff
  simp only [readBeat, hmode, hkind, horigin, hactivate, hreached, hunsync, hslots, hfield (a := 1) (k := 1) (by omega) (by omega),
    hfield (a := 3) (k := 1) (by omega) (by omega), hfield (a := 4) (k := 1) (by omega) (by omega),
    hfield (a := 5) (k := 6) (by omega) (by omega), hfield (a := 11) (k := 6) (by omega) (by omega),
    hfield (a := 17) (k := 6) (by omega) (by omega)]

/-- The frame sent on is a good beat frame if the one with the request placed is a possible one (R123). -/
theorem beatBytes_rewriteSummary (ht : frameType bytes = some .beat) (hpossible : beatImpossible bytes = false) :
    BeatBytes (rechecked (rewriteSummary bytes reached unsync)) := by
  have hagree := rewriteSummary_agreeOff h reached unsync
  have hlength : (rewriteSummary bytes reached unsync).length = 61 := (length_patch (by simp [h])).trans h
  have htype : frameType (rechecked (rewriteSummary bytes reached unsync)) = some .beat := by
    rw [frameType, hagree.byteAt (by omega) (by omega)]; exact ht
  refine ⟨length_rechecked hlength, frameGood_rechecked hlength htype, htype, ?_⟩
  simpa [beatImpossible, (flags_rewriteSummary h reached unsync).1, hagree.slotBytes] using hpossible

end summary

/-! ### One slot written (R104) -/

section slot

variable {bytes : List Byte} (h : bytes.length = 61) {slot : Nat} (hslot : slot < 4) (r : RequestRecord)
include h hslot

theorem length_writeSlot : (writeSlot bytes slot r).length = 61 := by
  rw [writeSlot, length_patch (by rw [length_writtenSlot]; omega), h]

theorem writeSlot_agreeOff : AgreeOff (23 + 9 * slot) 9 bytes (writeSlot bytes slot r) := by
  have hagree := patch_agreeOff (bytes := bytes) (new := writtenSlot (some r)) (at_ := 23 + 9 * slot) (by omega)
  rwa [length_writtenSlot] at hagree

theorem slotBytes_writeSlot {k : Nat} (hk : k < 4) :
    slotBytes (writeSlot bytes slot r) k = if k = slot then writtenSlot (some r) else slotBytes bytes k := by
  split
  · next heq =>
    have hwindow := window_patch (bytes := bytes) (new := writtenSlot (some r)) (at_ := 23 + 9 * slot) (by omega)
    subst heq
    rw [length_writtenSlot] at hwindow
    exact hwindow
  · exact (writeSlot_agreeOff h hslot r).slotBytes hk (by omega)

theorem readBeat_writeSlot :
    readBeat (writeSlot bytes slot r) = { readBeat bytes with slots := (readBeat (writeSlot bytes slot r)).slots } := by
  have hagree := writeSlot_agreeOff h hslot r
  have hbyte : byteAt (writeSlot bytes slot r) 2 = byteAt bytes 2 := hagree.byteAt (by omega) (by omega)
  have hfield {a k : Nat} (hfront : a + k ≤ 23) := hagree.fieldAt (a := a) (k := k) (by omega) (by omega)
  simp only [readBeat, modeCode, hbyte, hfield (a := 1) (k := 1) (by omega),
    hfield (a := 3) (k := 1) (by omega), hfield (a := 4) (k := 1) (by omega), hfield (a := 5) (k := 6) (by omega),
    hfield (a := 11) (k := 6) (by omega), hfield (a := 17) (k := 6) (by omega)]

/-- A record that a slot can hold makes no frame an impossible one. -/
theorem beatImpossible_writeSlot (hr : r.Placeable) (hpossible : beatImpossible bytes = false) :
    beatImpossible (writeSlot bytes slot r) = false := by
  have hmode : modeCode (writeSlot bytes slot r) = modeCode bytes := by
    rw [modeCode, (writeSlot_agreeOff h hslot r).byteAt (by omega) (by omega), modeCode]
  rw [beatImpossible, Bool.or_eq_false_iff, List.any_eq_false] at hpossible ⊢
  obtain ⟨hcode, hslots⟩ := hpossible
  refine ⟨by rw [hmode, hcode], fun k hk => ?_⟩
  rw [slotBytes_writeSlot h hslot r (by simp at hk; omega)]
  split
  · rw [slotImpossible_written hr]; exact Bool.false_ne_true
  · exact hslots k hk

theorem frameType_writeSlot : frameType (writeSlot bytes slot r) = frameType bytes := by
  rw [frameType, (writeSlot_agreeOff h hslot r).byteAt (by omega) (by omega), frameType]

end slot

/-! ### The request placed (R103, R104) -/

/-- The first empty slot is empty, and the slots before it are occupied. -/
theorem firstEmptySlot_spec {bytes : List Byte} {slot : Nat} (h : firstEmptySlot bytes = some slot) :
    slot < 4 ∧ slotOccupied (slotBytes bytes slot) = false ∧ ∀ j < slot, slotOccupied (slotBytes bytes j) = true := by
  have hrange : (List.range 4).find? (fun k => !slotOccupied (slotBytes bytes k)) = some slot := h
  obtain ⟨hempty, hslot, hbefore⟩ := List.find?_range_eq_some.mp hrange
  exact ⟨List.mem_range.mp hslot, by simpa using hempty, by simpa using hbefore⟩

theorem isSome_slotRecord (slot : List Byte) : (slotRecord slot).isSome = slotOccupied slot := by
  unfold slotRecord
  cases slotOccupied slot <;> rfl

/-- The frame as it leaves the request unit: as it came, or with one record of the part's own position in its first empty slot. -/
theorem State.placeRequest_bytes (s : State) (bytes : List Byte) :
    (s.placeRequest bytes).2 = bytes ∨
      ∃ (slot : Nat) (r : RequestRecord), firstEmptySlot bytes = some slot ∧ r.Placeable ∧
        s.handler.position.map (fun p => p.val) = some r.position ∧ (s.placeRequest bytes).2 = writeSlot bytes slot r := by
  unfold placeRequest
  split
  · next position slot source p hposition hslot _ =>
    split
    · exact .inr ⟨slot, p.placed source.val position.val, hslot, ⟨position.isLt, .inl source.isLt⟩, by rw [hposition]; rfl, rfl⟩
    · exact .inl rfl
  · exact .inl rfl

/-- What placement may do to the contents of a beat frame (R103, R104). -/
structure PlacedInto (position : Option Nat) (f g : BeatFields) : Prop where
  fields : g = { f with slots := g.slots }
  occupied : ∀ k : Fin 4, (f.slots[k]).isSome = true → g.slots[k] = f.slots[k]
  filled : ∀ k : Fin 4, g.slots[k] ≠ f.slots[k] →
    f.slots[k] = none ∧ (∀ j : Fin 4, j < k → (f.slots[j]).isSome = true) ∧
      ∃ r, g.slots[k] = some r ∧ position = some r.position

theorem PlacedInto.refl (position : Option Nat) (f : BeatFields) : PlacedInto position f f :=
  ⟨rfl, fun _ _ => rfl, fun _ h => absurd rfl h⟩

theorem getElem_slots (bytes : List Byte) (k : Fin 4) : (readBeat bytes).slots[k] = slotRecord (slotBytes bytes k) :=
  getElem_tabulate _ _ _

theorem placedInto_writeSlot {bytes : List Byte} (h : bytes.length = 61) {slot : Nat} (hempty : firstEmptySlot bytes = some slot)
    {r : RequestRecord} (hr : r.Placeable) : PlacedInto (some r.position) (readBeat bytes) (readBeat (writeSlot bytes slot r)) := by
  obtain ⟨hslot, hfree, hbefore⟩ := firstEmptySlot_spec hempty
  have hread (k : Fin 4) : (readBeat (writeSlot bytes slot r)).slots[k] =
      if k.val = slot then slotRecord (writtenSlot (some r)) else (readBeat bytes).slots[k] := by
    rw [getElem_slots, getElem_slots, slotBytes_writeSlot h hslot r k.isLt]
    split <;> rfl
  refine ⟨readBeat_writeSlot h hslot r, fun k hk => ?_, fun k hk => ?_⟩
  · rw [getElem_slots, isSome_slotRecord] at hk
    rw [hread, if_neg (by rintro rfl; simp [hfree] at hk)]
  · obtain rfl : k.val = slot := by_contra fun hne => hk (by rw [hread, if_neg hne])
    refine ⟨?_, fun j hj => ?_, _, by rw [hread, if_pos rfl, slotRecord, slotOccupied_written, if_pos rfl], ?_⟩
    · rw [getElem_slots, slotRecord, hfree]; rfl
    · rw [getElem_slots, isSome_slotRecord]; exact hbefore j hj
    · rw [slotPosition_written hr]

/-- The frame as it leaves the request unit is still a beat frame, but for its check. -/
theorem State.placeRequest_spec (s : State) {bytes : List Byte} (hb : BeatBytes bytes) :
    let placed := (s.placeRequest bytes).2
    placed.length = 61 ∧ frameType placed = some .beat ∧ beatImpossible placed = false ∧
      PlacedInto (s.handler.position.map fun p => p.val) (readBeat bytes) (readBeat placed) := by
  obtain ⟨hlength, _, htype, hpossible⟩ := hb
  dsimp only
  obtain hsame | ⟨slot, r, hempty, hr, hposition, hplaced⟩ := s.placeRequest_bytes bytes
  · rw [hsame]
    exact ⟨hlength, htype, hpossible, .refl _ _⟩
  · obtain ⟨hslot, _⟩ := firstEmptySlot_spec hempty
    rw [hplaced, hposition]
    exact ⟨length_writeSlot hlength hslot r, (frameType_writeSlot hlength hslot r).trans htype,
      beatImpossible_writeSlot hlength hslot r hr hpossible, placedInto_writeSlot hlength hempty hr⟩

/-! ### The frame sent on (R119) -/

/-- A frame handed to an idle ring-out with nothing waiting is being sent (R111). -/
theorem FrameHandler.hand_of_idle {h : FrameHandler} (hsending : h.sending = none) (hqueue : h.queue = []) (frame : List Byte) :
    h.hand frame = { h with sending := some frame } :=
  if_pos ⟨hsending, hqueue⟩

/-- The unsync value with the origin number read as present or absent (R122). -/
theorem Sequencer.unsync_eq (q : Sequencer) :
    q.unsync = (q.runState == .idle || q.runState == .stranded || (q.runState.numbered && q.originNumber.isNone)) := by
  rw [unsync, synchronised, Option.not_isSome]

@[simp] theorem State.passBeat_seq (s : State) (bytes : List Byte) :
    (s.passBeat bytes).seq =
      ((s.readBeatFields (readBeat bytes)).readActivation (readBeat bytes) (s.seq.mustOrigin (readBeat bytes))).seq := by
  simp [passBeat]

/-- Settles O39: the bytes that placement leaves, and REACHED and UNSYNC rewritten in them. -/
theorem forwardedBeatFrame : Obligations.ForwardedBeatFrame := by
  intro s t bytes hin hrole hb hsending hqueue hexec
  rw [State.exec_beatFrame hin hrole hb] at hexec
  obtain rfl := Host.Outcome.next.inj hexec
  let f := readBeat bytes
  let read := (s.received.readBeatFields f).readActivation f (s.received.seq.mustOrigin f)
  have hhandler : read.handler = s.received.handler := by simp [read]
  have hposition : read.handler.position = s.handler.position := by rw [hhandler]; rfl
  obtain ⟨hlength, htype, hpossible, hplaced⟩ := read.placeRequest_spec hb
  have hsent : (s.received.passBeat bytes).handler.sending =
      some (rechecked (rewriteSummary (read.placeRequest bytes).2 (f.reached && read.seq.reached f) (f.unsync || read.seq.unsync))) := by
    simp [State.passBeat, State.hand, read, f, FrameHandler.hand_of_idle, hsending, hqueue, State.received]
  refine ⟨_, hsent, beatBytes_rewriteSummary hlength _ _ htype hpossible, ?_⟩
  rw [readBeat_rewriteSummary hlength, State.passBeat_seq]
  rw [hposition] at hplaced
  exact ⟨by rw [hplaced.fields, Sequencer.unsync_eq]; rfl, hplaced.occupied, hplaced.filled⟩

end Sys2Proof.Machine
end

section
/-! SUPPORT. Ring-out, and the root commands where they are taken and where they are refused (R111, R125, R144, R147, R153). -/

namespace Sys2Proof.Machine

/-! ### Ring-out (R111) -/

/-- Ring-out that has sent its frame, with none waiting, is idle. -/
theorem FrameHandler.transmitDone_of_nil {h : FrameHandler} (hqueue : h.queue = []) :
    h.transmitDone = { h with sending := none } := by
  unfold transmitDone
  split
  · rfl
  · next hcons => simp [hqueue] at hcons

/-- Ring-out that has sent its frame starts the oldest one waiting. -/
theorem FrameHandler.transmitDone_of_cons {h : FrameHandler} {frame : List Byte} {rest : List (List Byte)}
    (hqueue : h.queue = frame :: rest) : h.transmitDone = { h with sending := some frame, queue := rest } := by
  simp only [transmitDone, hqueue]

/-- Settles O32: the branches of `hand` and of `transmitDone`. -/
theorem ringOutQueue : Obligations.RingOutQueue := by
  refine ⟨fun h frame => ⟨fun hsending hqueue => FrameHandler.hand_of_idle hsending hqueue frame, fun hbusy hroom => ?_,
    fun hfull => ?_⟩,
    fun s => ⟨fun hqueue => ?_, fun frame rest hqueue => ?_⟩⟩
  · have hidle : ¬ (h.sending = none ∧ h.queue = []) := not_and_or.mpr hbusy
    rw [FrameHandler.hand, if_neg hidle, if_pos hroom]
  · have hidle : ¬ (h.sending = none ∧ h.queue = []) := fun ⟨_, hqueue⟩ => by simp [hqueue] at hfull
    rw [FrameHandler.hand, if_neg hidle, if_neg (by omega)]
    rfl
  · exact congrArg (fun h => Host.Outcome.next (s.setHandler h)) (FrameHandler.transmitDone_of_nil hqueue)
  · exact congrArg (fun h => Host.Outcome.next (s.setHandler h)) (FrameHandler.transmitDone_of_cons hqueue)

/-! ### Root commands that are taken (R125, R147, R153) -/

section taken

variable {s : State}

/-- PAUSE in RUN decides the halt with cause CONTROL (R147). -/
theorem State.servePause_of_run (h : s.seq.runState = .run) :
    s.servePause = (s.decideHalt (localCause 40 .pause s.seq.step)).accept 0 := by
  simp only [State.servePause, h, State.processRecord_localPause h]

/-- PAUSE of a halt in force changes nothing (R147). -/
theorem State.servePause_of_halt (h : s.seq.runState = .halting ∨ s.seq.runState = .halted ∨ s.seq.runState = .broken) :
    s.servePause = s.accept 0 := by
  obtain h | h | h := h
  all_goals simp only [State.servePause, h]

theorem State.serveClearBreak_of_broken (h : s.seq.runState = .broken) : s.serveClearBreak = s.clearBreak.accept 0 := by
  simp only [State.serveClearBreak, h]

/-- SWAP with no announcement outstanding and a grant below the last step (R153). -/
theorem State.serveSwap_of_free (hstate : s.seq.runState.numbered = true) (hfree : s.plan.announced = none)
    (hgrant : s.root.rootGrant ≠ maxStep) :
    s.serveSwap =
      (s.setPlan { s.plan with
        nextStage := s.swapActivation.stage, announced := some s.swapActivation, pendingActivation := some s.swapActivation }).accept
          s.swapActivation.stage := by
  simp [State.serveSwap, hstate, hfree, hgrant]

/-- ENUMERATE with no enumeration outstanding (R125). -/
theorem State.serveEnumerate_of_free (hstate : s.seq.runState = .idle ∨ s.seq.runState = .ready)
    (hfree : s.handler.enumerationOutstanding = false) :
    s.serveEnumerate =
      State.accept
        (((s.setHandler { s.handler with enumerationOutstanding := true, enumerationTimer := 0, enumerationLost := false }).setSeq
          { s.seq with runState := .ready }).hand (writtenEnum firstEnumFrame)) 0 := by
  have hhand (h : FrameHandler) (frame : List Byte) :
      ({ h with enumerationOutstanding := true, enumerationTimer := 0, enumerationLost := false } : FrameHandler).hand frame =
        { h.hand frame with enumerationOutstanding := true, enumerationTimer := 0, enumerationLost := false } := by
    unfold FrameHandler.hand
    (repeat' split) <;> rfl
  have hserve : s.serveEnumerate = State.accept
      (((s.hand (writtenEnum firstEnumFrame)).setHandler { (s.handler.hand (writtenEnum firstEnumFrame)) with
          enumerationOutstanding := true, enumerationTimer := 0, enumerationLost := false }).setSeq
        { s.seq with runState := .ready }) 0 := by
    obtain h | h := hstate
    all_goals simp [State.serveEnumerate, h, hfree, State.hand]
  rw [hserve, ← hhand]
  rfl

/-- A command that succeeds at the root alone completes, with the frame answered OK (R163). -/
theorem State.TakesAlone.next_served {t : State} {f : ServiceFrame} {c : CommandName} {value : Nat} (h : s.TakesAlone f)
    (hrole : s.seq.role = .root) (hserved : s.received.perform c f = t.accept value) :
    (.next (s.serviceArrives c.code f) : Host.Outcome State Fault Refusal) = .next (t.sent c.code (f.ok value)) :=
  congrArg Host.Outcome.next (h.served (.inl hrole) hserved)

end taken

/-- Settles O57: each command's own effect, by `TakesAlone.served`. -/
theorem pauseClearBreakSwapEnumerate : Obligations.PauseClearBreakSwapEnumerate := by
  refine fun s f hf hrole => ⟨fun hrun => ?_, fun hbroken => ?_, fun hcold hidle hfree hgrant => ?_, fun hstate hfree => ?_⟩
  · exact hf.next_served hrole (c := .pause) (State.servePause_of_run (s := s.received) hrun)
  · exact hf.next_served hrole (c := .clearBreak) (State.serveClearBreak_of_broken (s := s.received) hbroken)
  · have hnumbered : s.received.seq.runState.numbered = true := (State.numbered_iff _).mpr ⟨hcold, hidle⟩
    exact hf.next_served hrole (c := .swap) (State.serveSwap_of_free (s := s.received) hnumbered hfree hgrant)
  · exact hf.next_served hrole (c := .enumerate) (State.serveEnumerate_of_free (s := s.received) hstate hfree)

/-! ### Root commands by the state of the root (R144) -/

theorem State.tryRun_status (s : State) (target : Option Nat) (reply : Nat) : (s.tryRun target reply).status = s.runRefusal.getD .ok := by
  unfold State.tryRun
  cases s.runRefusal <;> rfl

theorem State.serveRun_status (s : State) :
    s.serveRun.status =
      match s.seq.runState with
      | .ready | .halted => s.runRefusal.getD .ok
      | .broken => .breakOpen
      | .cold | .idle | .run | .halting | .stranded => .wrongState := by
  unfold State.serveRun
  cases s.seq.runState
  case ready | halted => exact tryRun_status s none 0
  all_goals rfl

/-- A count of 0 is refused before the state is looked at (R164). -/
theorem State.serveRunFor_of_zero (s : State) {f : ServiceFrame} (h : f.value = 0) : s.serveRunFor f = s.refuse .badValue := by
  simp [State.serveRunFor, h]

theorem State.serveRunFor_status (s : State) {f : ServiceFrame} (h : f.value ≠ 0) :
    (s.serveRunFor f).status =
      match s.seq.runState with
      | .ready | .halted => s.runRefusal.getD .ok
      | .run => .ok
      | .broken => .breakOpen
      | .cold | .idle | .halting | .stranded => .wrongState := by
  have hcount : f.value.toNat ≠ 0 := fun h0 => h (BitVec.eq_of_toNat_eq h0)
  unfold State.serveRunFor
  dsimp only
  rw [if_neg hcount]
  cases s.seq.runState
  case ready | halted => exact tryRun_status s _ _
  all_goals rfl

theorem State.servePause_status (s : State) :
    s.servePause.status =
      match s.seq.runState with
      | .run | .halting | .halted | .broken => .ok
      | .cold | .idle | .ready | .stranded => .wrongState := by
  unfold State.servePause
  cases s.seq.runState <;> rfl

theorem State.serveClearBreak_status (s : State) :
    s.serveClearBreak.status =
      match s.seq.runState with
      | .broken => .ok
      | .cold | .idle | .ready | .run | .halting | .halted | .stranded => .wrongState := by
  unfold State.serveClearBreak
  cases s.seq.runState <;> rfl

theorem State.serveOrigin_status (s : State) :
    s.serveOrigin.status =
      match s.seq.runState with
      | .ready | .halted | .broken | .stranded => if s.root.originOutstanding then .busy else .ok
      | .cold | .idle | .run | .halting => .wrongState := by
  unfold State.serveOrigin
  cases s.seq.runState <;> cases s.root.originOutstanding <;> rfl

theorem State.serveSwap_status (s : State) :
    s.serveSwap.status =
      if s.seq.runState.numbered = false then .wrongState
      else if s.plan.announced ≠ none then .stageBusy
      else if s.root.rootGrant = 2 ^ 48 - 1 then .countEnd
      else .ok := by
  have hmax : maxStep = 2 ^ 48 - 1 := rfl
  simp only [State.serveSwap, hmax, Option.isSome_iff_ne_none]
  (repeat' split) <;> rfl

theorem State.serveEnumerate_status (s : State) :
    s.serveEnumerate.status =
      match s.seq.runState with
      | .idle | .ready => if s.handler.enumerationOutstanding then .busy else .ok
      | .cold | .run | .halting | .halted | .broken | .stranded => .wrongState := by
  unfold State.serveEnumerate
  cases s.seq.runState <;> cases s.handler.enumerationOutstanding <;> rfl

/-- Settles O58: the status of each root command by the state of the root, as the tables above give it. -/
theorem rootCommandsByState : Obligations.RootCommandsByState := by
  refine ⟨fun s f hrole hcold hd => ?_, fun s f hf hrole hhalt => ?_⟩
  · have hserved (c : CommandName) : s.answer c.code f = s.perform c f := s.answer_eq_perform f c hd (.inl hrole)
    have hrun : s.answer 0x10 f = s.serveRun := hserved .run
    have hrunFor : s.answer 0x11 f = s.serveRunFor f := hserved .runFor
    have hpause : s.answer 0x12 f = s.servePause := hserved .pause
    have hclear : s.answer 0x13 f = s.serveClearBreak := hserved .clearBreak
    have horigin : s.answer 0x14 f = s.serveOrigin := hserved .origin
    have hswap : s.answer 0x15 f = s.serveSwap := hserved .swap
    have henumerate : s.answer 0x16 f = s.serveEnumerate := hserved .enumerate
    dsimp only
    rw [hrun, hrunFor, hpause, hclear, horigin, hswap, henumerate, State.serveRun_status, State.servePause_status,
      State.serveClearBreak_status, State.serveOrigin_status, State.serveSwap_status, State.serveEnumerate_status]
    refine ⟨?_, ?_, fun hzero => by rw [s.serveRunFor_of_zero hzero]; rfl, fun hvalue => ?_, ?_⟩
    case refine_3 =>
      rw [s.serveRunFor_status hvalue]
      cases s.seq.runState <;> simp
    all_goals
      cases hstate : s.seq.runState
      case cold => exact absurd hstate hcold
      all_goals simp +contextual [RunState.numbered]
  · exact hf.next_served hrole (c := .pause) (State.servePause_of_halt (s := s.received) hhalt)

end Sys2Proof.Machine
end

section
/-! SUPPORT. The arrival of a service frame in each of its forms (R110, R120, R163, R165). -/

namespace Sys2Proof.Machine

/-- A row that names a command is the arrival of its frame (R166). -/
theorem exec_of_serviceRow {c : Instr} {code : BitVec 8} {f : ServiceFrame} (h : serviceRow c = some (code, f)) (s : State) :
    exec c s = .next (s.serviceArrives code f) := by
  cases c <;> cases h <;> rfl

namespace State

variable {s : State} {code : BitVec 8} {f : ServiceFrame}

/-- A frame that ring-in does not receive ends without effect (R110). -/
theorem onArrival_not_received (h : s.handler.receives = false) (act : State → State) : s.onArrival act = s.received := by
  simp [onArrival, h, received]

/-- Which frames a part takes (R120). -/
theorem addressed_iff (s : State) (f : ServiceFrame) :
    s.addressed f = true ↔ f.destination = 63 ∨ s.handler.position.map (fun p => p.val) = some f.destination.toNat := by
  rw [addressed, Bool.or_eq_true, beq_iff_eq]
  cases s.handler.position <;> simp

/-- A frame for another part passes unchanged (R120). -/
theorem serviceArrives_passed (hin : s.handler.receives = true) (hd : f.destination ≠ 63)
    (hother : s.handler.position.map (fun p => p.val) ≠ some f.destination.toNat) :
    s.serviceArrives code f = s.received.sent code f := by
  have hnot : ¬ s.received.addressed f = true := fun h => (s.received.addressed_iff f |>.mp h).elim hd hother
  rw [serviceArrives, onArrival_received hin, takeService, if_neg hnot, sent]

/-- A broadcast is answered by every part (R165). -/
theorem serviceArrives_broadcast (hin : s.handler.receives = true) (hd : f.destination = 63) :
    s.serviceArrives code f =
      (s.received.answer code f).state.sent code ((s.received.answer code f).replyToBroadcast f) := by
  have ha : s.received.addressed f = true := (s.received.addressed_iff f).mpr (.inl hd)
  simp only [serviceArrives, onArrival_received hin, takeService, if_pos ha, Answer.written, if_pos hd, sent]

/-- The outcome and the effect of a command do not depend on whom it is addressed to, if it may be broadcast (R165). -/
theorem answer_destination (h : code.toNat ∈ [2, 3, 5, 6, 7, 9, 11]) (destination : BitVec 6) :
    s.answer code { f with destination } = s.answer code f := by
  have hcodes : ∀ n ∈ [2, 3, 5, 6, 7, 9, 11], (CommandName.ofCode n).any CommandName.broadcasts = true := by decide
  obtain ⟨c, hc, hbroadcasts⟩ := (Option.any_eq_true _ _).mp (hcodes _ h)
  have hperform : s.perform c { f with destination } = s.perform c f := by cases c <;> rfl
  have hroot : s.needsRoot c { f with destination } = s.needsRoot c f := by cases c <;> rfl
  simp only [answer, hc, hbroadcasts, hperform, hroot, Bool.true_eq_false, and_false, if_false]

end State

namespace Answer

variable {a : Answer} {f : ServiceFrame}

theorem replyTo_of_ok (h : a.status = .ok) : a.replyTo f = f.ok a.value := by
  rw [replyTo, h, if_pos rfl, ServiceFrame.ok]
  rfl

theorem replyTo_of_refused (h : a.status ≠ .ok) : a.replyTo f = f.refused a.status := by
  rw [replyTo, if_neg h, ServiceFrame.refused]

/-- The status and the reply value of a broadcast, by the status it arrives with (R165). -/
theorem replyToBroadcast_eq (a : Answer) (f : ServiceFrame) :
    a.replyToBroadcast f = { f with
      status := if f.status = 0xFF ∨ f.status = 0 then a.status.code else f.status
      replyValue := if f.status = 0xFF then 1
        else if f.replyValue = 0xFFFFFFFF then Config.replyPastRange a.state.clock.ticks else f.replyValue + 1 } := by
  have hcount : raisedReply (if f.status = 0xFF then 0 else f.replyValue) a.state.clock.ticks =
      if f.status = 0xFF then 1
      else if f.replyValue = 0xFFFFFFFF then Config.replyPastRange a.state.clock.ticks else f.replyValue + 1 := by
    split <;> rfl
  rw [← hcount]
  rfl

end Answer

/-- Settles O49: each form of the arrival, by `exec_of_serviceRow`; a refused command leaves the part by `answer_harmless`. -/
theorem serviceFrameForms : Obligations.ServiceFrameForms := by
  refine ⟨fun c code f hrow s => ?_, fun s code f destination hcode => State.answer_destination hcode destination,
    fun s code f hf hcode => ?_, fun s code f hin hd hother => congrArg Host.Outcome.next (State.serviceArrives_passed hin hd hother)⟩
  · dsimp only
    rw [exec_of_serviceRow hrow]
    refine ⟨fun hin => ?_, fun hin hd hother => ?_, fun hf hok => ?_, fun hf hrefused => ?_, fun hin hd => ?_⟩
    · rw [State.serviceArrives, State.onArrival_not_received hin]
    · rw [State.serviceArrives_passed hin hd hother]
    · rw [hf.serviceArrives, Answer.replyTo_of_ok hok]
    · obtain ⟨hstate, -⟩ := s.received.answer_harmless code f hrefused
      rw [hf.serviceArrives, Answer.replyTo_of_refused hrefused, hstate]
    · have hclock : (s.received.answer code f).state.clock = s.clock := (s.received.answer_frame code f).1
      rw [State.serviceArrives_broadcast hin hd, Answer.replyToBroadcast_eq, hclock]
  · have harrives := hf.serviceArrives code
    rw [State.answer_of_unassigned (CommandName.ofCode_of_unassigned hcode)] at harrives
    exact congrArg Host.Outcome.next harrives

end Sys2Proof.Machine
end

section
/-! SUPPORT. Reception: how a frame is completed, and the frames that are discarded (R110, R113 to R115, R176, R177). -/

namespace Sys2Proof.Machine

/-! ### The ways a frame is completed -/

namespace State

variable {s : State} {bytes : List Byte}

/-- The next frame is in reception from its start mark, and no byte of it has come (R110, R176). -/
def receivingNext (s : State) : State :=
  s.setHandler { s.handler with reception := .receiving, gapTimer := 0, arrived := [] }

/-- A frame at its end mark is taken with ring-in done (R110). -/
theorem frameArrives_received (s : State) (h : s.handler.receives = true) (bytes : List Byte) :
    s.frameArrives bytes = (s.takeFrame bytes).setReception .between := by
  rw [frameArrives, onArrival_received h, received, takeFrame_setReception]

/-- A frame completed early leaves what follows it in no frame (R176). -/
theorem frameCompletedEarly_of_inReception (s : State) (h : s.handler.inReception = true) (bytes : List Byte) :
    s.frameCompletedEarly bytes = (s.takeFrame bytes).setReception .ended := by
  rw [frameCompletedEarly, if_pos h, takeFrame_setReception]

/-- With no frame in reception nothing is completed (R176). -/
theorem frameCompletedEarly_of_not_inReception (h : s.handler.inReception = false) (bytes : List Byte) :
    s.frameCompletedEarly bytes = s := by
  simp [frameCompletedEarly, h]

/-- A start mark that cuts a frame begins the next one (R177). -/
theorem cutByStartMark_of_inReception (s : State) (h : s.handler.inReception = true) (bytes : List Byte) :
    s.cutByStartMark bytes = (s.takeFrame bytes).receivingNext := by
  have hringIn : (s.takeFrame bytes).handler.ringIn = true :=
    (s.takeFrame_ringIn bytes).trans (s.handler.inReception_iff.mp h).1
  have hlink : (if (s.takeFrame bytes).handler.ringIn = true then Reception.receiving else .missed) = .receiving := if_pos hringIn
  rw [cutByStartMark, s.frameCompletedEarly_of_inReception h, receivingNext, ← hlink]
  rfl

/-- A start mark with no frame in reception begins one (R110). -/
theorem cutByStartMark_of_not_inReception (h : s.handler.inReception = false) (bytes : List Byte) :
    s.cutByStartMark bytes = s.beginReception := by
  rw [cutByStartMark, frameCompletedEarly_of_not_inReception h]

/-- The rows that bring a beat frame at its end mark, whichever the role. -/
theorem exec_beatFrames (h : s.handler.receives = true) (bytes : List Byte) :
    exec (.beatFrameAtFollower bytes) s = .next ((s.takeFrame bytes).setReception .between) ∧
      exec (.beatFrameAtRoot bytes) s = .next ((s.takeFrame bytes).setReception .between) :=
  ⟨congrArg Host.Outcome.next (s.frameArrives_received h bytes), congrArg Host.Outcome.next (s.frameArrives_received h bytes)⟩

/-- The rows that complete a frame in reception before its end mark. -/
theorem exec_completedEarly (h : s.handler.inReception = true) (bytes : List Byte) :
    exec (.frameGapTimeout bytes) s = .next ((s.takeFrame bytes).setReception .ended) ∧
      exec (.frameOverlength bytes) s = .next ((s.takeFrame bytes).setReception .ended) ∧
      exec (.startMarkCut bytes) s = .next (s.takeFrame bytes).receivingNext :=
  have hearly := s.frameCompletedEarly_of_inReception h bytes
  ⟨congrArg Host.Outcome.next hearly, congrArg Host.Outcome.next hearly,
    congrArg Host.Outcome.next (s.cutByStartMark_of_inReception h bytes)⟩

/-! ### The frames that are discarded (R114, R115) -/

/-- A frame that fails its check is discarded (R114). -/
theorem takeFrame_of_bad (hlength : bytes.length ≤ 62) (h : frameGood bytes = false) : s.takeFrame bytes = s.discardFailed := by
  simp [takeFrame, List.take_of_length_le hlength, h]

/-- A good frame is dispatched by its type. -/
theorem takeFrame_of_good (hlength : bytes.length ≤ 62) (h : frameGood bytes = true) : s.takeFrame bytes = s.dispatch bytes := by
  simp [takeFrame, List.take_of_length_le hlength, h]

/-- A frame of no known type, or a beat frame with content that none can hold, is unknown (R115). -/
theorem dispatch_of_unknown (h : frameType bytes = none ∨ frameType bytes = some .beat ∧ beatImpossible bytes = true) :
    s.dispatch bytes = s.discardUnknown := by
  obtain h | ⟨htype, himpossible⟩ := h
  · simp only [dispatch, h]
  · simp only [dispatch, htype, himpossible, if_true]

end State

theorem frameGood_of_not_lengthMeets {bytes : List Byte} (h : lengthMeets bytes = false) : frameGood bytes = false := by
  simp [frameGood, h]

/-- A known type of another length fails the check (R113). -/
theorem frameGood_of_length_ne {bytes : List Byte} {t : FrameType} (ht : frameType bytes = some t) (hlength : bytes.length ≠ t.length) :
    frameGood bytes = false :=
  frameGood_of_not_lengthMeets (by simp [lengthMeets, ht, hlength])

/-- Settles O35: what each way of completion makes of the frame's taking, and `discardFailed` or `discardUnknown`. -/
theorem discardedFrames : Obligations.DiscardedFrames := by
  refine ⟨⟨fun s bytes hlength hbad => ?_, fun bytes => ⟨fun hshort => ?_, fun ht => frameGood_of_length_ne ht,
    fun ht => frameGood_of_length_ne ht, fun ht => frameGood_of_length_ne ht⟩⟩, fun s bytes hlength hgood hunknown => ?_⟩
  · have htaken : s.takeFrame bytes = s.discardFailed := State.takeFrame_of_bad hlength hbad
    refine ⟨fun hin => ?_, fun hin => ?_⟩
    · have hbeat := State.exec_beatFrames hin bytes
      rwa [htaken] at hbeat
    · have hearly := State.exec_completedEarly hin bytes
      rwa [htaken] at hearly
  · exact frameGood_of_not_lengthMeets (by simp [lengthMeets]; omega)
  · have htaken : s.takeFrame bytes = s.discardUnknown := by
      rw [State.takeFrame_of_good hlength hgood, State.dispatch_of_unknown hunknown]
    refine ⟨fun hin => ?_, fun hin => ?_⟩
    · have hbeat := State.exec_beatFrames hin bytes
      rwa [htaken] at hbeat
    · have hearly := State.exec_completedEarly hin bytes
      rwa [htaken] at hearly

/-! ### Reception begins and ends -/

/-- A frame is received at its end mark, as the two fields say it (R110). -/
theorem FrameHandler.receives_iff (h : FrameHandler) :
    h.receives = true ↔ h.ringIn = true ∧ (h.reception = .between ∨ h.reception = .receiving) := by
  simp [receives]

/-- A frame in reception is received at its end mark. -/
theorem FrameHandler.receives_of_inReception {h : FrameHandler} (hin : h.inReception = true) : h.receives = true := by
  obtain ⟨hringIn, hreceiving⟩ := h.inReception_iff.mp hin
  exact h.receives_iff.mpr ⟨hringIn, .inr hreceiving⟩

namespace State

variable {s : State} {bytes : List Byte}

/-- The frame is taken as row `c` takes it at its end mark, but for what ring-in is receiving afterwards (R176, R177). -/
theorem taken_as_at_endMark {c : Instr} (hin : s.handler.inReception = true)
    (hc : exec c s = .next ((s.takeFrame bytes).setReception .between)) :
    ∃ t, exec c s = .next t ∧
      exec (.frameGapTimeout bytes) s = .next (t.setHandler { t.handler with reception := .ended }) ∧
      exec (.frameOverlength bytes) s = .next (t.setHandler { t.handler with reception := .ended }) ∧
      exec (.startMarkCut bytes) s = .next (t.setHandler { t.handler with reception := .receiving, gapTimer := 0, arrived := [] }) :=
  ⟨_, hc, exec_completedEarly hin bytes⟩

/-- A row that brings the contents of a service frame takes it as its bytes are taken (R120). -/
theorem exec_serviceRow_taken {c : Instr} (hin : s.handler.receives = true) (hlength : bytes.length ≤ 62) (hgood : frameGood bytes = true)
    (htype : frameType bytes = some .service) (hc : serviceRow c = some (byteAt bytes 3, readService bytes)) :
    exec c s = .next ((s.takeFrame bytes).setReception .between) := by
  rw [exec_of_serviceRow hc, serviceArrives, onArrival_received hin, received, takeService_setReception, takeFrame_of_good hlength hgood]
  simp only [dispatch, htype]

/-- The rows that bring the contents of an ENUM frame take it as its bytes are taken (R121). -/
theorem exec_enumFrames (hin : s.handler.receives = true) (hlength : bytes.length ≤ 62) (hgood : frameGood bytes = true)
    (htype : frameType bytes = some .enum) :
    exec (.enumFrameAtFollower (readEnum bytes)) s = .next ((s.takeFrame bytes).setReception .between) ∧
      exec (.enumFrameAtRoot (readEnum bytes)) s = .next ((s.takeFrame bytes).setReception .between) := by
  have htaken : s.onArrival (fun t => t.takeEnum (readEnum bytes)) = (s.takeFrame bytes).setReception .between := by
    rw [onArrival_received hin, received, takeEnum_setReception, takeFrame_of_good hlength hgood]
    simp only [dispatch, htype]
  exact ⟨congrArg Host.Outcome.next htaken, congrArg Host.Outcome.next htaken⟩

end State

/-- Settles O34: the marks and limits with and without a frame in reception, and `taken_as_at_endMark` for each type of a good frame. -/
theorem receptionBeginsAtStartMark : Obligations.ReceptionBeginsAtStartMark := by
  refine ⟨fun s => ⟨fun hstate => ?_, s.handler.inReception_iff, s.handler.receives_iff, fun hout bytes => ?_, rfl⟩,
    fun s bytes hout => ?_, fun s bytes hout => ?_, fun s t bytes hin hnext => ?_, fun s bytes hin hlength hgood => ?_⟩
  · have hout : s.handler.inReception = false := Bool.eq_false_iff.mpr fun hin => hstate (s.handler.inReception_iff.mp hin).2
    exact congrArg Host.Outcome.next (s.cutByStartMark_of_not_inReception hout _)
  · exact congrArg Host.Outcome.next (s.cutByStartMark_of_not_inReception hout bytes)
  · have hnot (act : State → State) : (.next (s.onArrival act) : Host.Outcome State Fault Refusal) = .next s.received :=
      congrArg Host.Outcome.next (s.onArrival_not_received hout act)
    exact ⟨hnot _, hnot _, fun f => ⟨hnot _, hnot _⟩⟩
  · have hnone := s.frameCompletedEarly_of_not_inReception hout bytes
    exact ⟨congrArg Host.Outcome.next hnone, congrArg Host.Outcome.next hnone⟩
  · obtain ⟨hgap, hover, -⟩ := State.exec_completedEarly hin bytes
    rw [hgap, hover, or_self] at hnext
    rw [← Host.Outcome.next.inj hnext]
    rfl
  · have hreceives := FrameHandler.receives_of_inReception hin
    obtain ⟨hfollower, hroot⟩ := State.exec_beatFrames hreceives bytes
    refine ⟨fun _ _ => ⟨fun _ => State.taken_as_at_endMark hin hfollower, fun _ => State.taken_as_at_endMark hin hroot⟩,
      fun htype c hc => State.taken_as_at_endMark hin (State.exec_serviceRow_taken hreceives hlength hgood htype hc), fun htype => ?_⟩
    obtain ⟨hfollower, hroot⟩ := State.exec_enumFrames hreceives hlength hgood htype
    exact ⟨fun _ => State.taken_as_at_endMark hin hfollower, fun _ => State.taken_as_at_endMark hin hroot⟩

end Sys2Proof.Machine
end

section
/-! SUPPORT. A record at the root, by its kind and by the root's state: a notice, the halt decision, or a secondary (R138 to R140). -/

namespace Sys2Proof.Machine

/-- The kind of the halt that a PAUSE or a BREAK decides (R139). -/
theorem Kind.toHalt_eq (k : Kind) : k.toHalt = if k = .brk then .brk else .pause := by
  cases k <;> rfl

namespace State

variable {s : State} {r : RequestRecord}

/-! ### The table of R138 -/

theorem processRecord_of_mark (h : r.kind = .mark) : s.processRecord r = s.addNotice r false := by
  simp only [processRecord, h]

/-- In READY and STRANDED a PAUSE or a BREAK has come too late for its halt (R138). -/
theorem processRecord_of_still (hkind : r.kind ≠ .mark) (h : s.seq.runState = .ready ∨ s.seq.runState = .stranded) :
    s.processRecord r = s.addNotice r true := by
  cases hr : r.kind
  case mark => exact absurd hr hkind
  all_goals
    obtain h | h := h
    all_goals simp only [processRecord, hr, h]

theorem processRecord_of_run (hkind : r.kind ≠ .mark) (h : s.seq.runState = .run) : s.processRecord r = s.decideHalt r := by
  cases hr : r.kind
  case mark => exact absurd hr hkind
  all_goals simp only [processRecord, hr, h]

/-- With a halt in force a PAUSE or a BREAK joins it (R140). -/
theorem processRecord_of_halt (hkind : r.kind ≠ .mark)
    (h : s.seq.runState = .halting ∨ s.seq.runState = .halted ∨ s.seq.runState = .broken) :
    s.processRecord r = s.addSecondary r := by
  cases hr : r.kind
  case mark => exact absurd hr hkind
  all_goals
    obtain h | h | h := h
    all_goals simp only [processRecord, hr, h]

/-! ### Secondaries (R140) -/

/-- The record as a secondary keeps it: late once the halt has been confirmed. -/
def secondary (s : State) (r : RequestRecord) : LoggedRequest :=
  { request := r, arrivalStep := s.seq.step, late := s.seq.runState == .halted || s.seq.runState == .broken }

theorem secondary_of_halt (h : s.seq.runState = .halting ∨ s.seq.runState = .halted ∨ s.seq.runState = .broken) :
    s.secondary r = { request := r, arrivalStep := s.seq.step, late := decide (s.seq.runState ≠ .halting) } := by
  obtain h | h | h := h
  all_goals simp [secondary, h]

/-- A secondary that is no heavier than the halt only joins the record. -/
theorem addSecondary_of_joins (h : ¬ (r.kind = .brk ∧ s.seq.haltKind = .pause)) :
    s.addSecondary r = s.setRoot { s.root with haltRecord := s.root.haltRecord.append (s.secondary r) } :=
  if_neg h

/-- A BREAK that joins a PAUSE escalates it. -/
theorem addSecondary_of_escalates (hkind : r.kind = .brk) (hhalt : s.seq.haltKind = .pause) :
    s.addSecondary r =
      (s.setRoot { s.root with haltRecord := s.root.haltRecord.append (s.secondary r) }).escalate :=
  if_pos ⟨hkind, hhalt⟩

end State

/-- Settles O42: the table of R138 row by row, and the two forms of a secondary. -/
theorem recordsAtRoot : Obligations.RecordsAtRoot := by
  refine fun s r => ⟨fun hmark => State.processRecord_of_mark hmark, fun hkind hstate => State.processRecord_of_still hkind hstate,
    fun hkind hrun => ?_, fun hkind hhalt => ⟨fun hjoins => ?_, fun hbrk hpause => ?_⟩⟩
  · rw [State.processRecord_of_run hkind hrun, State.decideHalt, Kind.toHalt_eq]
    rfl
  · have hlight : ¬ (r.kind = .brk ∧ s.seq.haltKind = .pause) := by rintro ⟨hbrk, hpause⟩; simp [hbrk, hpause] at hjoins
    rw [State.processRecord_of_halt hkind hhalt, State.addSecondary_of_joins hlight, State.secondary_of_halt hhalt]
    rfl
  · rw [State.processRecord_of_halt hkind hhalt, State.addSecondary_of_escalates hbrk hpause, State.secondary_of_halt hhalt]
    rfl

end Sys2Proof.Machine
end

section
/-! SUPPORT. A returned frame with its entry: its requests, then the rest of it (R135, R137, R141, R154). -/

namespace Sys2Proof.Machine

/-! ### What a frame can complete (R141, R154) -/

/-- When a frame completes the announced activation (R154). -/
theorem PlanStore.completes_iff (p : PlanStore) (f : BeatFields) (e : OutstandingBeat) :
    p.completes f e = true ↔
      f.activateFlag = true ∧ p.announced = some { stage := f.stage, step := f.activationStep } ∧ f.activationStep ≤ e.rootStep := by
  simp [PlanStore.completes, and_assoc]

/-- The state a confirmed halt ends in (R141). -/
theorem HaltKind.endState_eq (k : HaltKind) : k.endState = if k = .brk then .broken else .halted := by
  cases k <;> rfl

/-! ### The requests of the frame (R137, part 1) -/

/-- The records in a frame's slots, in slot order. -/
def BeatFields.records (f : BeatFields) : List RequestRecord :=
  [f.slots[0], f.slots[1], f.slots[2], f.slots[3]].filterMap fun slot => slot

theorem BeatFields.slots_toList (f : BeatFields) : f.slots.toList = [f.slots[0], f.slots[1], f.slots[2], f.slots[3]] := by
  refine List.ext_getElem (by simp) fun i hi _ => ?_
  have hi : i < 4 := by simpa using hi
  interval_cases i <;> rfl

theorem BeatFields.records_of_empty {f : BeatFields} (h : ∀ k : Fin 4, f.slots[k] = none) : f.records = [] := by
  have hslots : f.slots[0] = none ∧ f.slots[1] = none ∧ f.slots[2] = none ∧ f.slots[3] = none := ⟨h 0, h 1, h 2, h 3⟩
  simp [records, hslots]

namespace State

variable {s : State} {f : BeatFields} {e : OutstandingBeat}

/-- Empty slots are passed over. -/
theorem processSlots_eq (s : State) (f : BeatFields) : s.processSlots f = f.records.foldl processRecord s := by
  rw [BeatFields.records, List.foldl_filterMap, processSlots, f.slots_toList]
  refine congrArg (fun g => List.foldl g s _) (funext₂ fun t slot => ?_)
  cases slot <;> rfl

/-- Outside RUN no record starts a run (R138). -/
theorem processRecord_not_run (h : s.seq.runState ≠ .run) (r : RequestRecord) : (s.processRecord r).seq.runState ≠ .run := by
  by_cases hhalting : s.seq.runState = .halting
  · simp [processRecord_halting s hhalting r]
  · exact (processRecord_rests ⟨h, hhalting⟩ r).1

theorem foldl_processRecord_not_run (records : List RequestRecord) :
    ∀ s : State, s.seq.runState ≠ .run → (records.foldl processRecord s).seq.runState ≠ .run := by
  induction records with
  | nil => exact fun _ h => h
  | cons r rest ih => exact fun s h => ih _ (processRecord_not_run h r)

/-! ### The rest of the frame (R137, parts 2 to 5) -/

/-- Parts 2 to 5 of R137, given whether the frame may confirm a halt. -/
def finishReturn (s : State) (f : BeatFields) (e : OutstandingBeat) (haltCurrent : Bool) : State :=
  (((s.takeUnsync f).confirm f haltCurrent).endOrigin e).completeActivation f e

theorem processReturn_eq (s : State) (f : BeatFields) (e : OutstandingBeat) :
    s.processReturn f e =
      (f.records.foldl processRecord (s.measureRoundTrip e)).finishReturn f e (e.haltCurrent && s.seq.runState != .run) := by
  rw [← processSlots_eq]
  rfl

theorem processReturn_of_no_requests (h : ∀ k : Fin 4, f.slots[k] = none) :
    s.processReturn f e = (s.measureRoundTrip e).finishReturn f e (e.haltCurrent && s.seq.runState != .run) := by
  rw [processReturn_eq, BeatFields.records_of_empty h, List.foldl_nil]

/-- The rest of a frame is that of the frame without its requests and without a round trip; it confirms a halt only if the root was
outside RUN before the requests too (log entry 15). -/
theorem processReturn_split (s : State) (f : BeatFields) (e : OutstandingBeat) :
    s.processReturn f e =
      (f.records.foldl processRecord (s.measureRoundTrip e)).processReturn { f with slots := Vector.replicate 4 none }
        { e with numberingCurrent := false, haltCurrent := e.haltCurrent && decide (s.seq.runState ≠ .run) } := by
  have hempty : ∀ k : Fin 4, (Vector.replicate 4 (none : Option RequestRecord))[k] = none := by simp
  have hcurrent : (e.haltCurrent && s.seq.runState != .run) =
      (e.haltCurrent && decide (s.seq.runState ≠ .run) &&
        (f.records.foldl processRecord (s.measureRoundTrip e)).seq.runState != .run) := by
    by_cases hrun : s.seq.runState = .run
    · simp [hrun]
    · have hafter := foldl_processRecord_not_run f.records (s.measureRoundTrip e) (by simpa using hrun)
      simp [hrun, bne_iff_ne.mpr hrun, bne_iff_ne.mpr hafter]
  rw [processReturn_eq, processReturn_of_no_requests hempty, hcurrent]
  rfl

/-! ### What each part leaves in the timebase -/

/-- The round trip is measured into two fields (R135). -/
@[simp] theorem measureRoundTrip_root (s : State) (e : OutstandingBeat) :
    (s.measureRoundTrip e).root.originOutstanding = s.root.originOutstanding ∧
      (s.measureRoundTrip e).root.outstanding = s.root.outstanding ∧
      (s.measureRoundTrip e).root.haltRecord = s.root.haltRecord ∧
      (s.measureRoundTrip e).root.rootGrant = s.root.rootGrant := by
  unfold measureRoundTrip
  split <;> exact ⟨rfl, rfl, rfl, rfl⟩

/-- UNSYNC is noted, and decides at most a halt (R137). -/
@[simp] theorem takeUnsync_root (s : State) (f : BeatFields) :
    (s.takeUnsync f).root.originOutstanding = s.root.originOutstanding ∧ (s.takeUnsync f).root.ringUnsynchronised = f.unsync ∧
      (s.takeUnsync f).root.largestRoundTrip = s.root.largestRoundTrip ∧ (s.takeUnsync f).root.leadShort = s.root.leadShort := by
  unfold takeUnsync
  dsimp only
  split <;> exact ⟨rfl, rfl, rfl, rfl⟩

/-- Confirmation closes at most the halt record (R141). -/
theorem confirm_root (s : State) (f : BeatFields) (haltCurrent : Bool) :
    (s.confirm f haltCurrent).root = s.root ∨ (s.confirm f haltCurrent).root = s.root.closeRecord := by
  unfold confirm
  split
  · split
    · rw [enterStranded_root]
      split
      · exact .inr rfl
      · exact .inl rfl
    · split <;> exact .inl rfl
  · exact .inl rfl

theorem completeActivation_plan (s : State) (f : BeatFields) (e : OutstandingBeat) :
    (s.completeActivation f e).plan = if s.plan.completes f e then { s.plan with announced := none } else s.plan := by
  unfold completeActivation
  split <;> rfl

/-- The parts that a frame without requests leaves alike in every run state. -/
theorem finishReturn_spec (s : State) (f : BeatFields) (e : OutstandingBeat) (haltCurrent : Bool) :
    let t := s.finishReturn f e haltCurrent
    t.root.originOutstanding = (s.root.originOutstanding && !e.originCurrent) ∧ t.root.ringUnsynchronised = f.unsync ∧
      t.root.largestRoundTrip = s.root.largestRoundTrip ∧ t.root.leadShort = s.root.leadShort ∧
      t.plan = if s.plan.completes f e then { s.plan with announced := none } else s.plan := by
  obtain h | h := confirm_root (s.takeUnsync f) f haltCurrent
  all_goals simp [finishReturn, completeActivation_plan, endOrigin, h, RootTimebase.closeRecord]

theorem finishReturn_seq (s : State) (f : BeatFields) (e : OutstandingBeat) (haltCurrent : Bool) :
    (s.finishReturn f e haltCurrent).seq = ((s.takeUnsync f).confirm f haltCurrent).seq := by
  simp [finishReturn]

theorem finishReturn_lists (s : State) (f : BeatFields) (e : OutstandingBeat) (haltCurrent : Bool) :
    (s.finishReturn f e haltCurrent).root.outstanding = ((s.takeUnsync f).confirm f haltCurrent).root.outstanding ∧
      (s.finishReturn f e haltCurrent).root.haltRecord = ((s.takeUnsync f).confirm f haltCurrent).root.haltRecord := by
  simp [finishReturn, endOrigin]

/-! ### UNSYNC in RUN (R137) -/

theorem takeUnsync_of_decides (hrun : s.seq.runState = .run) (hunsync : f.unsync = true) :
    s.takeUnsync f =
      (s.setRoot { s.root with ringUnsynchronised := f.unsync }).decideHalt (localCause 44 .brk s.seq.step) :=
  if_pos ⟨hrun, hunsync⟩

theorem takeUnsync_of_noted (h : ¬ (s.seq.runState = .run ∧ f.unsync = true)) :
    s.takeUnsync f = s.setRoot { s.root with ringUnsynchronised := f.unsync } :=
  if_neg h

/-! ### Confirmation (R141) -/

theorem confirm_of_unsync (hstate : s.seq.runState = .halting) (hunsync : f.unsync = true) :
    s.confirm f true = s.enterStranded := by
  simp [confirm, hstate, hunsync]

theorem confirm_of_reached (hstate : s.seq.runState = .halting) (hunsync : f.unsync = false) (hreached : f.reached = true) :
    s.confirm f true = s.setSeq { s.seq with runState := s.seq.haltKind.endState } := by
  simp [confirm, hstate, hunsync, hreached]

theorem confirm_of_not_current (s : State) (f : BeatFields) : s.confirm f false = s := by
  simp [confirm]

theorem confirm_of_not_reached (hunsync : f.unsync = false) (hreached : f.reached = false) (haltCurrent : Bool) :
    s.confirm f haltCurrent = s := by
  simp [confirm, hunsync, hreached]

theorem confirm_seq (s : State) (f : BeatFields) (haltCurrent : Bool) :
    (s.confirm f haltCurrent).seq = { s.seq with runState := (s.confirm f haltCurrent).seq.runState } := by
  unfold confirm
  (repeat' split) <;> simp

/-! ### A frame without requests in RUN and in HALTING (R137, R141) -/

/-- In RUN nothing is confirmed (log entry 15), so a frame of a synchronised ring leaves the sequencer. -/
theorem finishReturn_seq_of_synchronised (hunsync : f.unsync = false) : (s.finishReturn f e false).seq = s.seq := by
  rw [finishReturn_seq, takeUnsync_of_noted (by simp [hunsync]), confirm_of_not_current, setRoot_seq]

/-- In RUN a frame with UNSYNC decides the halt, with a BREAK of code 44 as its primary. -/
theorem finishReturn_of_decides (hrun : s.seq.runState = .run) (hunsync : f.unsync = true) :
    let t := s.finishReturn f e false
    t.seq = { s.seq with runState := .halting, haltStep := some s.root.rootGrant, haltKind := .brk } ∧
      t.root.haltRecord = HaltRecord.decided .brk s.root.rootGrant s.seq.step (localCause 44 .brk s.seq.step) := by
  obtain ⟨-, hrecord⟩ := s.finishReturn_lists f e false
  dsimp only
  rw [finishReturn_seq, hrecord, confirm_of_not_current, takeUnsync_of_decides hrun hunsync]
  exact ⟨rfl, rfl⟩

/-- A frame without requests in HALTING: UNSYNC and the round trip leave all that confirmation reads, and confirmation does the rest. -/
theorem processReturn_of_halting (hstate : s.seq.runState = .halting) (hslots : ∀ k : Fin 4, f.slots[k] = none) :
    ∃ u : State, u.seq = s.seq ∧ u.root.outstanding = s.root.outstanding ∧ u.root.haltRecord = s.root.haltRecord ∧
      (s.processReturn f e).seq = (u.confirm f e.haltCurrent).seq ∧
      (s.processReturn f e).root.outstanding = (u.confirm f e.haltCurrent).root.outstanding ∧
      (s.processReturn f e).root.haltRecord = (u.confirm f e.haltCurrent).root.haltRecord := by
  have hnoted : (s.measureRoundTrip e).takeUnsync f = _ := takeUnsync_of_noted (by simp [hstate])
  have hcurrent : (e.haltCurrent && s.seq.runState != .run) = e.haltCurrent := by simp [hstate]
  have hlists := (s.measureRoundTrip e).finishReturn_lists f e e.haltCurrent
  refine ⟨(s.measureRoundTrip e).takeUnsync f, by simp [hnoted], by simp [hnoted], by simp [hnoted], ?_⟩
  rw [processReturn_of_no_requests hslots, hcurrent]
  exact ⟨finishReturn_seq _ f e _, hlists⟩

end State

/-- Settles O47: `processReturn_split` for the requests; for a frame without them `finishReturn_spec` and, by the run state, what UNSYNC
and the confirmation make of it. -/
theorem returnedFrameProcessed : Obligations.ReturnedFrameProcessed := by
  refine ⟨fun s f e => s.processReturn_split f e, fun s f e hslots => ?_, fun s f e hrole hstate hslots => ?_⟩
  · obtain ⟨horigin, hnoted, hlargest, hshort, hplan⟩ :=
      (s.measureRoundTrip e).finishReturn_spec f e (e.haltCurrent && s.seq.runState != .run)
    have hplan' : (s.measureRoundTrip e).plan = s.plan := by simp
    have hseq : (s.measureRoundTrip e).seq = s.seq := by simp
    have hgrant : (s.measureRoundTrip e).root.rootGrant = s.root.rootGrant := by simp
    have hnone (hrun : s.seq.runState = .run) : (e.haltCurrent && s.seq.runState != .run) = false := by simp [hrun]
    dsimp only
    rw [State.processReturn_of_no_requests hslots, horigin, hnoted, hlargest, hshort, hplan, hplan', ← PlanStore.completes_iff]
    refine ⟨by simp, rfl, fun h => if_pos h, fun h => if_neg h, fun h => ?_, fun h => ?_, fun hrun hunsync => ?_,
      fun hrun hunsync => ?_⟩
    · simp [State.measureRoundTrip, h]
    · simp [State.measureRoundTrip, h]
    · rw [hnone hrun, State.finishReturn_seq_of_synchronised hunsync, hseq]
    · obtain ⟨hhalted, hrecord⟩ :=
        State.finishReturn_of_decides (s := s.measureRoundTrip e) (e := e) (by rw [hseq, hrun]) hunsync
      rw [hnone hrun, hhalted, hrecord, hseq, hgrant]
      exact ⟨rfl, rfl⟩
  · obtain ⟨u, hseq, hlist, hrecord, htseq, htlist, htrecord⟩ := State.processReturn_of_halting (e := e) hstate hslots
    have hhalting : u.seq.runState = .halting := by rw [hseq, hstate]
    have hroot : u.seq.role = .root := by rw [hseq, hrole]
    dsimp only
    rw [htseq, htlist, htrecord, ← hlist, ← hrecord, ← hseq]
    refine ⟨?_, u.confirm_seq f _, fun hcurrent hunsync hreached => ?_, fun hcurrent hunsync => ?_, fun hnot => ?_⟩
    · obtain h | h := u.confirm_root f e.haltCurrent <;> rw [h]
      rfl
    · rw [hcurrent, State.confirm_of_reached hhalting hunsync hreached]
      exact ⟨HaltKind.endState_eq _, rfl⟩
    · simp [hcurrent, State.confirm_of_unsync hhalting hunsync, State.enterStranded_root, hroot, RootTimebase.closeRecord]
    · have hkept : u.confirm f e.haltCurrent = u := by
        obtain hcurrent | ⟨hunsync, hreached⟩ := hnot
        · rw [hcurrent, u.confirm_of_not_current]
        · exact u.confirm_of_not_reached hunsync hreached _
      rw [hkept]
      exact ⟨hhalting, rfl⟩

end Sys2Proof.Machine
end

section
/-! SUPPORT. A beat frame returned to the root, matched against the outstanding list by its sequence (R134). -/

namespace Sys2Proof.Machine

namespace State

variable {s : State} {bytes : List Byte}

/-- A good beat frame at the root is consumed (R119, R134). -/
theorem exec_beatFrameAtRoot (hin : s.handler.receives = true) (hrole : s.seq.role = .root) (hb : BeatBytes bytes) :
    exec (.beatFrameAtRoot bytes) s = .next (s.received.takeBeat bytes) := by
  obtain ⟨hlength, hgood, htype, hpossible⟩ := hb
  have hframe : s.received.takeFrame bytes = s.received.takeBeat bytes := by
    have hrole' : s.received.seq.role = .root := hrole
    simp [takeFrame_of_good (Nat.le_succ_of_le hlength.le) hgood, dispatch, htype, hpossible, dispatchBeat, hrole']
  rw [← hframe, ← onArrival_received hin fun t => t.takeFrame bytes]
  rfl

/-! ### The match (R134) -/

theorem takeHead_of_cons {f : BeatFields} {e : OutstandingBeat} {rest : List OutstandingBeat} (h : s.root.outstanding = e :: rest) :
    s.takeHead f = (s.setRoot { s.root with outstanding := rest }).processReturn f e := by
  simp only [takeHead, h]

/-- A sequence that no entry has makes the frame foreign. -/
theorem takeBeat_of_foreign (h : ∀ e ∈ s.root.outstanding, e.sequence ≠ (readBeat bytes).sequence) :
    s.takeBeat bytes = s.setRoot { s.root with foreignCount := raiseCount s.root.foreignCount 1 } := by
  have hnone : s.root.outstanding.findIdx? (fun e => e.sequence == (readBeat bytes).sequence) = none := by
    simpa [List.findIdx?_eq_none_iff] using h
  simp only [takeBeat, hnone]

section matched

variable {older rest : List OutstandingBeat} {e : OutstandingBeat}

/-- The entry found is the oldest one of its sequence. -/
theorem findIdx?_matched {n : Nat} (he : e.sequence = n) (holder : ∀ x ∈ older, x.sequence ≠ n) :
    (older ++ e :: rest).findIdx? (fun x => x.sequence == n) = some older.length := by
  have hnone : older.findIdx? (fun x => x.sequence == n) = none := by simpa [List.findIdx?_eq_none_iff] using holder
  simp [List.findIdx?_append, hnone, List.findIdx?_cons, he]

theorem takeBeat_of_oldest (hlist : s.root.outstanding = e :: rest) (he : e.sequence = (readBeat bytes).sequence) :
    s.takeBeat bytes = (s.setRoot { s.root with outstanding := rest }).processReturn (readBeat bytes) e := by
  have hfound := findIdx?_matched (older := []) (rest := rest) he (by simp)
  rw [List.nil_append, ← hlist] at hfound
  rw [← takeHead_of_cons hlist]
  simp only [takeBeat, hfound, List.length_nil]

/-- RING_LOSS is processed like any record (R134, R138). -/
theorem ringLoss_of_not_idle (h : s.seq.runState ≠ .idle) : s.ringLoss = s.processRecord (localCause 42 .brk s.seq.step) :=
  if_neg h

/-- The root with the entries older than those kept lost, and counted. -/
def losing (s : State) (lost : Nat) (kept : List OutstandingBeat) : State :=
  s.setRoot { s.root with outstanding := kept, lostCount := raiseCount s.root.lostCount lost }

/-- The entries before the one matched are lost, and RING_LOSS is taken first. -/
theorem takeBeat_of_later (hlist : s.root.outstanding = older ++ e :: rest) (he : e.sequence = (readBeat bytes).sequence)
    (holder : ∀ x ∈ older, x.sequence ≠ (readBeat bytes).sequence) (hne : older ≠ [])
    (hidle : s.seq.runState ≠ .idle) :
    s.takeBeat bytes =
      ((s.losing older.length (e :: rest)).processRecord (localCause 42 .brk s.seq.step)).takeHead (readBeat bytes) := by
  have hfound := findIdx?_matched (rest := rest) he holder
  rw [← hlist] at hfound
  obtain ⟨first, others, rfl⟩ := List.exists_cons_of_ne_nil hne
  have hdrop : s.root.outstanding.drop (others.length + 1) = e :: rest := by simp [hlist]
  have hloss := ringLoss_of_not_idle (s := s.losing (others.length + 1) (e :: rest)) hidle
  simp only [takeBeat, hfound, List.length_cons, hdrop]
  exact congrArg (fun t => t.takeHead (readBeat bytes)) hloss

end matched

/-! ### The list after a record (R133, R138) -/

/-- A halt decided by a record clears halt-current in the entries listed (R133, R139). -/
theorem processRecord_outstanding_of_run {r : RequestRecord} (hkind : r.kind ≠ .mark) (h : s.seq.runState = .run) :
    (s.processRecord r).root.outstanding = s.root.outstanding.map fun e => { e with haltCurrent := false } := by
  rw [processRecord_of_run hkind h]
  rfl

/-- Outside RUN a record leaves the list (R138, R140). -/
theorem processRecord_outstanding_of_not_run (h : s.seq.runState ≠ .run) (r : RequestRecord) :
    (s.processRecord r).root.outstanding = s.root.outstanding := by
  unfold processRecord
  split
  case h_2 | h_3 => exact absurd ‹_› h
  case h_4 | h_5 | h_6 | h_7 | h_8 | h_9 =>
    unfold addSecondary
    dsimp only
    split <;> rfl
  case h_1 | h_10 | h_11 | h_12 | h_13 => exact (RootTimebase.notify_list _).1
  all_goals rfl

end State

/-- Settles O46: the three places of a match, and the entry as RING_LOSS leaves it. -/
theorem returnedFrameMatched : Obligations.ReturnedFrameMatched := by
  intro s bytes hin hrole hb f
  rw [State.exec_beatFrameAtRoot hin hrole hb]
  refine ⟨fun hforeign => congrArg Host.Outcome.next (State.takeBeat_of_foreign (s := s.received) hforeign),
    fun older e rest hlist he holder => ⟨fun hnil => ?_, fun hne hidle => ?_⟩⟩
  · have hlist : s.received.root.outstanding = e :: rest := by rw [hnil] at hlist; exact hlist
    exact congrArg Host.Outcome.next (State.takeBeat_of_oldest hlist he)
  · intro t
    have htaken : s.received.takeBeat bytes = t.takeHead f :=
      State.takeBeat_of_later (s := s.received) hlist he holder hne hidle
    have hnext {e' : OutstandingBeat} {rest' : List OutstandingBeat} (h : t.root.outstanding = e' :: rest') :
        Host.Outcome.next (s.received.takeBeat bytes) =
          (.next ((t.setRoot { t.root with outstanding := rest' }).processReturn f e') : Host.Outcome State Fault Refusal) := by
      rw [htaken, State.takeHead_of_cons h]
    by_cases hrun : s.seq.runState = .run
    · have hmapped : t.root.outstanding = _ := State.processRecord_outstanding_of_run (by simp) hrun
      exact ⟨_, _, hmapped, fun h => absurd hrun h, fun _ => ⟨rfl, rfl⟩, hnext hmapped⟩
    · have hkept : t.root.outstanding = e :: rest :=
        State.processRecord_outstanding_of_not_run (s := s.received.losing older.length (e :: rest)) hrun _
      exact ⟨e, rest, hkept, fun _ => ⟨rfl, rfl⟩, fun h => absurd h hrun, hnext hkept⟩

end Sys2Proof.Machine
end

section
/-! SUPPORT. TAKE_NOTICE, RUN and RUN_FOR at the root (R143 to R146, R169). -/

namespace Sys2Proof.Machine

section answered

variable {s : State} {f : ServiceFrame}

/-- A command that the root alone refuses completes, with the frame answered by the status (R163). -/
theorem State.TakesAlone.next_refused {c : CommandName} {status : Status} (h : s.TakesAlone f) (hrole : s.seq.role = .root)
    (hstatus : status ≠ .ok) (hrefused : s.received.perform c f = s.received.refuse status) :
    (.next (s.serviceArrives c.code f) : Host.Outcome State Fault Refusal) =
      .next (s.received.sent c.code (f.refused status)) := by
  rw [h.serviceArrives, s.received.answer_eq_perform f c h.2.1 (.inl hrole), hrefused, Answer.replyTo_of_refused hstatus]
  rfl

/-! ### TAKE_NOTICE (R143, R169) -/

theorem State.serveTakeNotice_of_nil (h : s.root.notices = []) : s.serveTakeNotice = s.refuse .empty := by
  simp only [State.serveTakeNotice, h]

theorem State.serveTakeNotice_of_cons {n : LoggedRequest} {rest : List LoggedRequest} (h : s.root.notices = n :: rest) :
    s.serveTakeNotice = (s.setRoot { s.root with notices := rest, lastNotice := some n }).accept (n.summary rest.length) := by
  simp only [State.serveTakeNotice, h]

/-- The summary with each field's place written first (R169). -/
theorem LoggedRequest.summary_eq (n : LoggedRequest) (left : Nat) :
    n.summary left =
      n.request.position + 2 ^ 6 * n.request.source +
        2 ^ 12 * n.request.kind.slotCode + 2 ^ 14 * n.request.level +
        2 ^ 16 * n.request.merged + 2 ^ 20 * n.late.toNat + 2 ^ 24 * left := by
  unfold summary
  ring

/-! ### RUN and RUN_FOR (R144 to R146) -/

/-- What refuses a run, by the first test that holds (R144). -/
theorem State.runRefusal_spec (s : State) :
    (s.root.originOutstanding = true → s.runRefusal = some .busy) ∧
    (s.root.originOutstanding = false → s.root.ringUnsynchronised = true → s.runRefusal = some .degraded) ∧
    (s.root.originOutstanding = false → s.root.ringUnsynchronised = false → s.seq.step = maxStep → s.runRefusal = some .countEnd) ∧
    (s.root.originOutstanding = false → s.root.ringUnsynchronised = false → s.seq.step ≠ maxStep → s.runRefusal = none) := by
  refine ⟨fun h => ?_, fun h h' => ?_, fun h h' hend => ?_, fun h h' hend => ?_⟩
  · simp [State.runRefusal, h]
  · simp [State.runRefusal, h, h']
  · simp [State.runRefusal, h, h', hend]
  · simp [State.runRefusal, h, h', hend]

theorem State.serveRun_of_still (h : s.seq.runState = .ready ∨ s.seq.runState = .halted) : s.serveRun = s.tryRun none 0 := by
  obtain h | h := h
  all_goals simp only [State.serveRun, h]

theorem ServiceFrame.count_ne_zero (hvalue : f.value ≠ 0) : f.value.toNat ≠ 0 :=
  fun h => hvalue (BitVec.eq_of_toNat_eq h)

theorem State.serveRunFor_of_still (hvalue : f.value ≠ 0) (h : s.seq.runState = .ready ∨ s.seq.runState = .halted) :
    s.serveRunFor f =
      s.tryRun (some (s.targetFromHere f.value.toNat)) (s.targetFromHere f.value.toNat - s.seq.step) := by
  obtain h | h := h
  all_goals simp only [State.serveRunFor, ServiceFrame.count_ne_zero hvalue, h, if_false]

/-- RUN_FOR in RUN sets the target alone (R146). -/
theorem State.serveRunFor_of_run (hvalue : f.value ≠ 0) (h : s.seq.runState = .run) :
    s.serveRunFor f =
      (s.setRoot { s.root with target := some (s.targetInRun f.value.toNat) }).accept (s.targetInRun f.value.toNat - s.seq.step) := by
  simp only [State.serveRunFor, ServiceFrame.count_ne_zero hvalue, h, if_false]

/-- A run refused at the root: both commands answer the status (R144). -/
theorem State.TakesAlone.exec_runs_refused {status : Status} (h : s.TakesAlone f) (hrole : s.seq.role = .root)
    (hstate : s.seq.runState = .ready ∨ s.seq.runState = .halted) (hstatus : status ≠ .ok)
    (hrefusal : s.received.runRefusal = some status) :
    exec (.run f) s = .next (s.received.sent 0x10 (f.refused status)) ∧
      (f.value ≠ 0 → exec (.runFor f) s = .next (s.received.sent 0x11 (f.refused status))) := by
  have htry (target : Option Nat) (reply : Nat) : s.received.tryRun target reply = s.received.refuse status := by
    simp only [State.tryRun, hrefusal]
  refine ⟨h.next_refused (c := .run) hrole hstatus ?_, fun hvalue => h.next_refused (c := .runFor) hrole hstatus ?_⟩
  · exact (State.serveRun_of_still (s := s.received) hstate).trans (htry _ _)
  · exact (State.serveRunFor_of_still (s := s.received) hvalue hstate).trans (htry _ _)

/-- A run started at the root (R145, R146): without a target, or with one as many steps away as the reply value says. -/
theorem State.TakesAlone.exec_runs_started (h : s.TakesAlone f) (hrole : s.seq.role = .root)
    (hstate : s.seq.runState = .ready ∨ s.seq.runState = .halted) (hrefusal : s.received.runRefusal = none) :
    exec (.run f) s = .next ((s.received.startRun none).sent 0x10 (f.ok 0)) ∧
      (f.value ≠ 0 →
        let T := s.received.targetFromHere f.value.toNat
        exec (.runFor f) s = .next ((s.received.startRun (some T)).sent 0x11 (f.ok (T - s.seq.step)))) := by
  have htry (target : Option Nat) (reply : Nat) :
      s.received.tryRun target reply = (s.received.startRun target).accept reply := by
    simp only [State.tryRun, hrefusal]
  refine ⟨h.next_served (c := .run) hrole ?_, fun hvalue => h.next_served (c := .runFor) hrole ?_⟩
  · exact (State.serveRun_of_still (s := s.received) hstate).trans (htry _ _)
  · exact (State.serveRunFor_of_still (s := s.received) hvalue hstate).trans (htry _ _)

end answered

/-! ### The start of a run (R145) -/

/-- The root with a run started, before its emission. -/
def State.runStarted (s : State) (target : Option Nat) : State :=
  (s.setRoot { s.root.closeRecord.clearHaltCurrent with target, emissionCount := 0 }).setSeq
    { s.seq with haltStep := none, runState := .run }

theorem State.runStarted_listed (s : State) (target : Option Nat) :
    (s.runStarted target).root.outstanding.length = s.root.outstanding.length := by
  simp [State.runStarted, RootTimebase.clearHaltCurrent, RootTimebase.closeRecord]

/-- With room in the list a run starts with an emission (R130, R145). -/
theorem State.startRun_of_room {s : State} (h : s.root.outstanding.length < 32) (target : Option Nat) :
    s.startRun target = (s.runStarted target).emit :=
  State.emitOrDefer_of_room (s := s.runStarted target) (by rwa [State.runStarted_listed])

/-- With a full list the emission is deferred (log entry 13). -/
theorem State.startRun_of_full {s : State} (h : 32 ≤ s.root.outstanding.length) (target : Option Nat) :
    s.startRun target =
      (s.runStarted target).setRoot { (s.runStarted target).root with
        deferredCount := raiseCount s.root.deferredCount 1, emissionDue := true } :=
  State.emitOrDefer_of_full (s := s.runStarted target) (by rwa [State.runStarted_listed])

/-- Settles O55: the two forms of the notice queue. -/
theorem takeNotice : Obligations.TakeNotice := by
  refine fun s f hf hrole => ⟨fun n rest hnotices => ?_, fun hnil => ?_⟩
  · have hserved := hf.next_served hrole (c := .takeNotice) (State.serveTakeNotice_of_cons (s := s.received) hnotices)
    rw [LoggedRequest.summary_eq] at hserved
    exact hserved
  · exact hf.next_refused hrole (c := .takeNotice) (status := .empty) (by decide) (State.serveTakeNotice_of_nil (s := s.received) hnil)

/-- Settles O56: the refusals in the order of `runRefusal_spec`, and the start of a run by the room in the list. -/
theorem runStartsWithEmission : Obligations.RunStartsWithEmission := by
  refine fun s f hf hrole => ⟨fun hstate => ?_, fun hrun hvalue => ?_⟩
  · obtain ⟨hbusy, hdegraded, hend, hfree⟩ := s.received.runRefusal_spec
    refine ⟨fun h => ?_, fun h h' => ?_, fun h h' hstep => ?_, fun h h' hstep => ?_⟩
    · exact hf.exec_runs_refused (status := .busy) hrole hstate (by decide) (hbusy h)
    · exact hf.exec_runs_refused (status := .degraded) hrole hstate (by decide) (hdegraded h h')
    · exact hf.exec_runs_refused (status := .countEnd) hrole hstate (by decide) (hend h h' hstep)
    · have hstarted := hf.exec_runs_started hrole hstate (hfree h h' hstep)
      refine ⟨fun hroom => ?_, fun hfull => ?_⟩
      · simp only [State.startRun_of_room (s := s.received) hroom] at hstarted
        exact hstarted
      · simp only [State.startRun_of_full (s := s.received) hfull] at hstarted
        exact hstarted
  · exact hf.next_served hrole (c := .runFor) (State.serveRunFor_of_run (s := s.received) hvalue hrun)

end Sys2Proof.Machine
end

section
/-! SUPPORT. What a follower makes of the ACTIVATE fields of a beat frame (R155, R156, R160). -/

namespace Sys2Proof.Machine

/-! ### What there is to record, and whether it is late -/

/-- What a frame must announce for a follower to record it (R155). -/
theorem PlanStore.learns_iff (p : PlanStore) (f : BeatFields) :
    p.learns f = true ↔ f.activateFlag = true ∧ f.stage ≠ p.liveStage ∧
      p.pendingActivation ≠ some { stage := f.stage, step := f.activationStep } := by
  simp only [learns, Bool.and_eq_true, bne_iff_ne, and_assoc]

theorem RunState.readsGrant_iff_mem (r : RunState) :
    r.readsGrant = true ↔ r ∈ [RunState.ready, .run, .halting, .halted, .broken] := by
  cases r <;> decide

theorem Sequencer.synchronised_iff (q : Sequencer) : q.synchronised = true ↔ q.originNumber ≠ none :=
  Option.isSome_iff_ne_none

namespace State

variable {s : State} {a : Activation} {originPerformed : Bool}

/-! ### The three outcomes of a recorded activation -/

/-- A frame that announces something new is recorded as pending, and weighed (R155). -/
theorem readActivation_of_learns {f : BeatFields} (h : s.plan.learns f = true) (originPerformed : Bool) :
    s.readActivation f originPerformed =
      (s.setPlan { s.plan with pendingActivation := some { stage := f.stage, step := f.activationStep } }).weighActivation
        { stage := f.stage, step := f.activationStep } originPerformed := if_pos h

theorem weighActivation_of_origin (h : originPerformed = true ∧ a.step = 0) :
    s.weighActivation a originPerformed = s.activateAtOrigin a := if_pos h

theorem weighActivation_of_late (horigin : ¬ (originPerformed = true ∧ a.step = 0))
    (hlate : s.seq.runState.readsGrant = true ∧ s.seq.synchronised = true ∧ a.step ≤ s.seq.step) :
    s.weighActivation a originPerformed = s.activateLate a := by
  rw [weighActivation, if_neg horigin, if_pos hlate]

theorem weighActivation_of_ahead (horigin : ¬ (originPerformed = true ∧ a.step = 0))
    (hahead : ¬ (s.seq.runState.readsGrant = true ∧ s.seq.synchronised = true ∧ a.step ≤ s.seq.step)) :
    s.weighActivation a originPerformed = s := by
  rw [weighActivation, if_neg horigin, if_neg hahead]

/-- A late application is an activation that is counted and raises LATE_ACTIVATION (R156). -/
theorem activateLate_eq (s : State) (a : Activation) :
    s.activateLate a =
      ((s.activate a).setPlan { (s.activate a).plan with lateCount := min (s.plan.lateCount + 1) 65535 }).setRequests
        ((s.activate a).requests.raise 35 (some .brk) a.step) := by
  have hcount : (s.activate a).plan.lateCount = s.plan.lateCount := by rw [activate_plan]; rfl
  simp only [activateLate, hcount, raiseCount, raise, setPlan_requests]

/-- What an application as at origin does, block by block (R160). -/
theorem activateAtOrigin_spec (s : State) (a : Activation) :
    let t := s.activateAtOrigin a
    let clamps := s.plan.staged.recordClamps
    t.plan = s.plan.applied a.stage clamps ∧ t.tracks = restartTracks t.plan.live.tracks ∧
      t.lanes = fillLanes t.plan.live.lanes t.tracks s.seq.step ∧
      t.cells = restartCells t.plan.live.cells s.cells (fun _ => true) t.tracks (Vector.replicate 8 false) ∧
      t.requests = if clamps = 0 then s.requests else s.requests.raise 34 s.requests.clampKind 0 := by
  have hplan : (s.activateAtOrigin a).plan = s.plan.applied a.stage s.plan.staged.recordClamps := by simp [activateAtOrigin]
  have htracks : (s.activateAtOrigin a).tracks = restartTracks (s.activateAtOrigin a).plan.live.tracks := by
    rw [hplan]; simp [activateAtOrigin, restartBlocks]
  refine ⟨hplan, htracks, ?_, ?_, ?_⟩
  · rw [htracks, hplan]; simp [activateAtOrigin, restartBlocks]
  · rw [htracks, hplan]; simp [activateAtOrigin, restartBlocks]
  · simp [activateAtOrigin, raiseClamps_requests]

end State

/-- Settles O27: what `learns` asks, then the three outcomes of `weighActivation` for the activation recorded. -/
theorem followerLearnsActivation : Obligations.FollowerLearnsActivation := by
  intro s f originPerformed a t held atOrigin clamps late
  have hlate_iff : late ↔ held.seq.runState.readsGrant = true ∧ held.seq.synchronised = true ∧ a.step ≤ held.seq.step := by
    rw [RunState.readsGrant_iff_mem, Sequencer.synchronised_iff]
    rfl
  refine ⟨fun hknown => State.readActivation_of_not_learns ?_ originPerformed, fun hflag hstage hnew => ?_⟩
  · rw [Bool.eq_false_iff, Ne, PlanStore.learns_iff]
    rintro ⟨hflag, hstage, hnew⟩
    obtain hclear | hlive | hpending := hknown
    · exact absurd (hclear.symm.trans hflag) (by decide)
    · exact hstage hlive
    · exact hnew hpending
  · have hread : t = held.weighActivation a originPerformed :=
      State.readActivation_of_learns ((PlanStore.learns_iff _ _).mpr ⟨hflag, hstage, hnew⟩) originPerformed
    rw [hread, hlate_iff]
    refine ⟨fun horigin => ?_, fun horigin hlate => ?_,
      fun horigin hahead => State.weighActivation_of_ahead horigin hahead⟩
    · obtain ⟨hplan, htracks, hlanes, hcells, hrequests⟩ := held.activateAtOrigin_spec a
      obtain ⟨hseq, hevents, hhandler, hroot, -⟩ := held.activateAtOrigin_frame a
      rw [State.weighActivation_of_origin horigin]
      refine ⟨hplan, fun i => ?_, hlanes, hcells, hrequests, hseq, hevents, hhandler, hroot⟩
      rw [htracks]
      exact getElem_tabulate _ _ _
    · rw [State.weighActivation_of_late horigin hlate]
      exact held.activateLate_eq a

end Sys2Proof.Machine
end

section
/-! SUPPORT. Writes of the staged bank and of the tables, at an index and at the cursor, CURSOR and COPY_LIVE (R150, R166, R167,
R169). -/

namespace Sys2Proof.Machine

namespace State

variable {s : State} {f : ServiceFrame}

/-! ### Which record of which table a write replaces -/

theorem writeField_trackStaged (s : State) (i : Fin 24) (field v : Nat) :
    s.writeField .trackStaged i field v =
      ((s.plan.staged.tracks[i]).write field v).map fun r =>
        s.setPlan { s.plan with staged := { s.plan.staged with tracks := s.plan.staged.tracks.set i r } } := dif_pos i.isLt

theorem writeField_laneStaged (s : State) (i : Fin 32) (field v : Nat) :
    s.writeField .laneStaged i field v =
      ((s.plan.staged.lanes[i]).write field v).map fun r =>
        s.setPlan { s.plan with staged := { s.plan.staged with lanes := s.plan.staged.lanes.set i r } } := dif_pos i.isLt

theorem writeField_cellStaged (s : State) (i : Fin 16) (field v : Nat) :
    s.writeField .cellStaged i field v =
      ((s.plan.staged.cells[i]).write field v).map fun c =>
        s.setPlan { s.plan with staged := { s.plan.staged with cells := s.plan.staged.cells.set i c } } := dif_pos i.isLt

/-! ### WRITE_NEXT (R167) -/

/-- A command that succeeds at the cursor moves it past the effective index (R167). -/
theorem atCursor_of_accepted {after : State} {value : Nat} {act : TableName → Nat → Answer}
    (hindex : s.cursor.index + f.offset.toNat < s.cursor.table.size)
    (hact : act s.cursor.table (s.cursor.index + f.offset.toNat) = after.accept value) :
    s.atCursor f act =
      (after.setCursor { after.cursor with index := s.cursor.index + f.offset.toNat + 1 }).accept value := by
  have hinside : ¬ s.cursor.table.size ≤ s.cursor.index := by omega
  simp only [atCursor, if_neg hinside, hact]
  rfl

/-- A WRITE_NEXT that passes every test, at a part that takes the frame alone (R166, R167). -/
theorem TakesAlone.served_writeNext {after : State} (h : s.TakesAlone f)
    (hindex : s.cursor.index + f.offset.toNat < s.cursor.table.size)
    (hdefines : s.cursor.table.defines f.field.toNat = true)
    (hwrites : s.cursor.table.writes (s.cursor.index + f.offset.toNat) f.field.toNat = true)
    (hlock : s.cursor.table.staged = true → s.plan.pendingActivation = none)
    (hw : s.received.writeField s.cursor.table (s.cursor.index + f.offset.toNat) f.field.toNat f.value.toNat = some after) :
    s.serviceArrives 0x05 f =
      (after.setCursor { table := s.cursor.table, index := s.cursor.index + f.offset.toNat + 1 }).sent 0x05 (f.ok 0) := by
  have hmay : s.needsRoot .writeNext f = false :=
    (needsRoot_of_table rfl rfl).trans (TableName.rootOnly_of_writes hwrites)
  obtain ⟨-, -, -, hcursor, -⟩ := writeField_frame _ _ _ _ _ _ hw
  refine h.served (c := .writeNext) (.inr hmay) ?_
  have hwritten : s.received.writeAt s.cursor.table (s.cursor.index + f.offset.toNat) f.field.toNat f.value.toNat = after.accept 0 :=
    writeAt_of_written hindex hdefines hwrites hlock hw
  rw [perform, serveWriteNext]
  refine (atCursor_of_accepted (s := s.received) hindex hwritten).trans ?_
  rw [hcursor]
  rfl

/-! ### CURSOR (R167) and COPY_LIVE (R150, R169) -/

/-- CURSOR to an index within the table or at its end, at a part that may use the table (R167). -/
theorem TakesAlone.served_cursor {t : TableName} (h : s.TakesAlone f) (ht : TableName.ofCode f.table.toNat = some t)
    (hmay : s.MayUse t) (hindex : f.index.toNat ≤ t.size) :
    s.serviceArrives 0x03 f = (s.received.setCursor { table := t, index := f.index.toNat }).sent 0x03 (f.ok 0) := by
  have hneeds : s.needsRoot .cursor f = t.rootOnly := needsRoot_of_table rfl ht
  refine h.served (c := .cursor) (hneeds ▸ hmay) ?_
  rw [perform, serveCursor, onTable_of_code _ ht, if_neg (Nat.not_lt.mpr hindex)]

/-- COPY_LIVE at a part that is not staging-locked (R150, R151). -/
theorem serveCopyLive_of_free (h : s.plan.pendingActivation = none) :
    s.serveCopyLive = (s.setPlan { s.plan with staged := s.plan.live }).accept 0 := by
  have hfree : ¬ s.stagingLocked = true := by simp [stagingLocked, h]
  rw [serveCopyLive, if_neg hfree, setStaged]

end State

/-- Settles O52: `served_write` and `served_writeNext`, the equations of `writeField` table by table, `served_cursor`, and
`serveCopyLive_of_free`. -/
theorem stagedWritesAndCursor : Obligations.StagedWritesAndCursor := by
  refine ⟨fun s f r i hf htable hindex hfield hfree hwrite => ?_, fun s f t after hf ht hindex hdefines hwrites hlock hw => ?_,
    fun s f after hf hindex hdefines hwrites hlock hw => ?_, fun s field v => ?_, fun s f t hf ht hmay hindex => ?_,
    fun s f hf hfree => ?_⟩
  · refine congrArg Host.Outcome.next (hf.served_write (t := .trackStaged) (by rw [htable]; rfl) (by rw [hindex]; exact i.isLt)
      (decide_eq_true hfield) rfl (fun _ => hfree) ?_)
    rw [hindex, State.writeField_trackStaged]
    exact Option.map_eq_some_iff.mpr ⟨r, hwrite, rfl⟩
  · exact congrArg Host.Outcome.next (hf.served_write ht hindex hdefines hwrites hlock hw)
  · exact congrArg Host.Outcome.next (hf.served_writeNext hindex hdefines hwrites hlock hw)
  · exact ⟨fun i => s.writeField_trackStaged i field v, fun i => s.writeField_laneStaged i field v,
      fun i => s.writeField_cellStaged i field v, rfl, fun i => s.writeField_event i field v,
      fun i => s.writeField_source i field v⟩
  · exact congrArg Host.Outcome.next (hf.served_cursor ht hmay hindex)
  · exact congrArg Host.Outcome.next
      (hf.served (c := .copyLive) (.inr (State.needsRoot_of_no_table rfl rfl)) (State.serveCopyLive_of_free (s := s.received) hfree))

end Sys2Proof.Machine
end

section
/-! SUPPORT. What READ and READ_NEXT answer (R166, R167), and the fields of every table read in the order of their numbers (R173 to
R175). -/

namespace Sys2Proof.Machine

/-! ### READ and READ_NEXT (R166, R167) -/

namespace State

variable {s : State} {f : ServiceFrame} {t : TableName}

/-- A read that passes every test of R164 answers the field; at a part that has received the frame, with nothing changed but ring-in. -/
theorem received_readAt_of_defined {index field : Nat} (hindex : index < t.size) (hdefines : t.defines field = true)
    (hentry : t = .haltRecord → index ≤ s.root.haltRecord.entries.length) (hnotice : t = .notice → s.root.lastNotice ≠ none) :
    s.received.readAt t index field = s.received.accept (s.fieldValue t index field) := by
  have hinside : ¬ (t.size ≤ index ∨ t = .haltRecord ∧ s.root.haltRecord.entries.length < index) := by grind
  have htaken : ¬ (t = .notice ∧ s.root.lastNotice = none) := fun ⟨ht, hnone⟩ => hnotice ht hnone
  have hread : s.readAt t index field = s.accept (s.fieldValue t index field) := by
    simp only [readAt, if_neg hinside, hdefines, if_neg htaken, Bool.true_eq_false, if_false]
  rw [received, readAt_setReception, hread]
  rfl

/-- A READ that passes every test, at a part that takes the frame alone (R166). -/
theorem TakesAlone.served_read (h : s.TakesAlone f) (ht : TableName.ofCode f.table.toNat = some t) (hmay : s.MayUse t)
    (hindex : f.index.toNat < t.size) (hdefines : t.defines f.field.toNat = true)
    (hentry : t = .haltRecord → f.index.toNat ≤ s.root.haltRecord.entries.length)
    (hnotice : t = .notice → s.root.lastNotice ≠ none) :
    s.serviceArrives 0x01 f = s.received.sent 0x01 (f.ok (s.fieldValue t f.index.toNat f.field.toNat)) := by
  have hneeds : s.needsRoot .read f = t.rootOnly := needsRoot_of_table rfl ht
  refine h.served (c := .read) (hneeds ▸ hmay) ?_
  rw [perform, serveRead, onTable_of_code _ ht]
  exact received_readAt_of_defined hindex hdefines hentry hnotice

/-- A READ_NEXT that passes every test, at a part that takes the frame alone: the cursor moves past the effective index (R167). -/
theorem TakesAlone.served_readNext (h : s.TakesAlone f) (hmay : s.MayUse s.cursor.table)
    (hindex : s.cursor.index + f.offset.toNat < s.cursor.table.size) (hdefines : s.cursor.table.defines f.field.toNat = true)
    (hentry : s.cursor.table = .haltRecord → s.cursor.index + f.offset.toNat ≤ s.root.haltRecord.entries.length)
    (hnotice : s.cursor.table = .notice → s.root.lastNotice ≠ none) :
    s.serviceArrives 0x04 f =
      (s.received.setCursor { s.cursor with index := s.cursor.index + f.offset.toNat + 1 }).sent 0x04
        (f.ok (s.fieldValue s.cursor.table (s.cursor.index + f.offset.toNat) f.field.toNat)) := by
  have hneeds : s.needsRoot .readNext f = s.cursor.table.rootOnly := needsRoot_of_table rfl rfl
  refine h.served (c := .readNext) (hneeds ▸ hmay) ?_
  rw [perform, serveReadNext]
  exact atCursor_of_accepted (s := s.received) hindex (received_readAt_of_defined hindex hdefines hentry hnotice)

end State

/-! ### The records of each table -/

namespace State

variable (s : State)

theorem fieldValue_trackStaged (i : Fin 24) : s.fieldValue .trackStaged i = (s.plan.staged.tracks[i]).field :=
  funext fun _ => dif_pos i.isLt

theorem fieldValue_trackLive (i : Fin 24) : s.fieldValue .trackLive i = (s.tracks[i]).field s.plan.live.tracks[i] :=
  funext fun _ => dif_pos i.isLt

theorem fieldValue_laneStaged (i : Fin 32) : s.fieldValue .laneStaged i = (s.plan.staged.lanes[i]).field :=
  funext fun _ => dif_pos i.isLt

theorem fieldValue_laneLive (i : Fin 32) : s.fieldValue .laneLive i = (s.lanes[i]).field s.plan.live.lanes[i] :=
  funext fun _ => dif_pos i.isLt

theorem fieldValue_cellStaged (i : Fin 16) : s.fieldValue .cellStaged i = (s.plan.staged.cells[i]).field :=
  funext fun _ => dif_pos i.isLt

theorem fieldValue_cellLive (i : Fin 16) : s.fieldValue .cellLive i = (s.cells[i]).field s.plan.live.cells[i] :=
  funext fun _ => dif_pos i.isLt

theorem fieldValue_event (i : Fin 32) : s.fieldValue .event i = (s.events.entries[i]).field :=
  funext fun _ => dif_pos i.isLt

/-- The kind of an event entry's source is the entry's (R97). -/
theorem fieldValue_source_kind (i : Fin 32) : s.fieldValue .source i.val 2 = kindCode (s.events.entries[i]).requestKind :=
  (s.fieldValue_source (i.castLE (by decide)) 2).trans (congrArg kindCode (dif_pos i.isLt))

/-- HALT_RECORD reads entry `k` at index `k + 1` (R175). -/
theorem fieldValue_haltRecord_entry {k : Nat} {n : LoggedRequest} (h : s.root.haltRecord.entries[k]? = some n) :
    s.fieldValue .haltRecord (k + 1) = n.field :=
  funext fun field => congrArg (loggedField · field) h

theorem fieldValue_notice {n : LoggedRequest} (h : s.root.lastNotice = some n) (index : Nat) :
    s.fieldValue .notice index = n.field :=
  funext fun field => congrArg (loggedField · field) h

end State

/-! ### Words of levels -/

/-- A word is the sum of its levels, each weighted by its place. -/
theorem wordOfList_eq_sum (levels : List Bool) :
    wordOfList levels = (levels.zipIdx.map fun b => b.1.toNat * 2 ^ b.2).sum := by
  have hfrom (levels : List Bool) : ∀ k, ((levels.zipIdx k).map fun b => b.1.toNat * 2 ^ b.2).sum = 2 ^ k * wordOfList levels := by
    induction levels with
    | nil => simp [wordOfList]
    | cons b rest ih =>
      intro k
      simp only [List.zipIdx_cons, List.map_cons, List.sum_cons, ih, wordOfList]
      ring
  simpa using (hfrom levels 0).symm

/-! ### Cell configurations (R173) -/

/-- Fields 8 to 15 of a cell configuration are its truth table in order. -/
theorem CellConfig.fields_truth (c : CellConfig) : (List.range' 8 8).map c.field = c.truth.toList.map Bool.toNat := by
  refine List.ext_getElem (by simp) fun k hk _ => ?_
  have h8 : k < 8 := by simpa using hk
  simpa using c.field_entry ⟨k, h8⟩

/-- A cell configuration's fields are its items in order, the truth table as one word and then entry by entry. -/
theorem CellConfig.fields (c : CellConfig) :
    (List.range' 0 16).map c.field =
      [c.selector0.val, c.selector1.val, c.selector2.val, wordOf c.truth, c.mode.code, c.edge.code, c.length,
        c.initialOutput.toNat] ++ c.truth.toList.map Bool.toNat := by
  rw [← c.fields_truth]
  rfl

/-! ### PART and ROOT (R175) -/

namespace State

variable (s : State)

/-- The origin number of PART, 256 while it is absent. -/
theorem partField_originNumber : s.partField 11 = match s.seq.originNumber with | none => 256 | some n => n := by
  cases h : s.seq.originNumber <;> simp [partField, h]

/-- The second pending word holds the four sources from the 32nd on (R101). -/
theorem partField_pendingHigh : s.partField 21 = wordOfList ((s.requests.waiting.toList.map Option.isSome).drop 32) := by
  simp [partField, RequestUnit.pendingWord, List.take_of_length_le]

/-- The pending stage with bit 8 set, or 0 without a pending activation. -/
theorem partField_pendingStage :
    s.partField 27 =
      if s.plan.pendingActivation = none then 0 else 256 + (s.plan.pendingActivation.getD { stage := 0, step := 0 }).stage := by
  cases h : s.plan.pendingActivation <;> simp [partField, PlanStore.pendingOrZero, h]

/-- The announced origin of ROOT, 256 while it is absent. -/
theorem rootField_announcedOrigin : s.rootField 12 = match s.root.announcedOrigin with | none => 256 | some n => n := by
  cases h : s.root.announcedOrigin <;> simp [rootField, h]

/-- Fields 8 to 11 of ROOT are of the oldest outstanding beat: its sequence, its grant in two parts and its age. -/
theorem rootFields_oldest :
    (List.range' 8 4).map s.rootField =
      match s.root.outstanding with
      | [] => [0, 0, 0, 0]
      | e :: _ => [e.sequence, lowPart e.grant, highPart e.grant, min (s.clock.time - e.emissionTime) 65535] := by
  cases h : s.root.outstanding <;> simp [List.range', rootField, oldestAge, h]

end State

/-! ### Codes of tables (R164), and the statement -/

theorem TableName.ofCode_code (t : TableName) : ofCode t.code = some t := by cases t <;> rfl

/-- Settles O51: `served_read` and `served_readNext`; table by table, the fields of the record that an index names, with the bit words as
sums and the absent items of PART and ROOT as `partField_*` and `rootField_*` say; and the codes. -/
theorem readsAnswerFields : Obligations.ReadsAnswerFields := by
  refine ⟨fun s f t hf ht hmay hindex hdefines hentry hnotice => ?_, fun s f hf hmay hindex hdefines hentry hnotice => ?_,
    fun s => ?_, ?_⟩
  · exact congrArg Host.Outcome.next (hf.served_read ht hmay hindex hdefines hentry hnotice)
  · exact congrArg Host.Outcome.next (hf.served_readNext hmay hindex hdefines hentry hnotice)
  · simp only [← wordOfList_eq_sum]
    refine ⟨fun i => ?_, fun i => ?_, fun i => ?_, rfl, rfl, fun i => ?_, fun i => ?_, s.fieldValue_source_kind, rfl, rfl, rfl,
      ?_, ?_, ⟨rfl, fun k n hn => ?_⟩, fun n hn => ?_⟩
    · rw [s.fieldValue_trackStaged, s.fieldValue_trackLive]
      exact ⟨rfl, rfl, rfl⟩
    · rw [s.fieldValue_laneStaged, s.fieldValue_laneLive]
      exact ⟨rfl, rfl, rfl⟩
    · rw [s.fieldValue_cellStaged, s.fieldValue_cellLive]
      exact ⟨CellConfig.fields _, CellConfig.fields _, rfl⟩
    · rw [s.fieldValue_event]
      rfl
    · exact congrArg (List.map · _) (funext fun field => s.fieldValue_source i field)
    · have hfields : s.fieldValue .part 0 = s.partField := rfl
      simp only [hfields, List.range', List.map_cons, List.map_nil, Nat.reduceAdd, s.partField_originNumber,
        s.partField_pendingHigh, s.partField_pendingStage]
      rfl
    · have hfields : (List.range' 0 29).map (s.fieldValue .root 0) =
          (List.range' 0 8).map s.rootField ++ (List.range' 8 4).map s.rootField ++ (List.range' 12 17).map s.rootField := rfl
      rw [hfields, s.rootFields_oldest]
      simp only [List.range', List.map_cons, List.map_nil, Nat.reduceAdd, s.rootField_announcedOrigin]
      rfl
    · rw [s.fieldValue_haltRecord_entry hn]
      rfl
    · rw [s.fieldValue_notice hn]
      rfl
  · refine ⟨rfl, rfl, fun g => Nat.add_comm .., fun c => Nat.add_comm .., rfl, rfl, rfl, fun _ => rfl, rfl, rfl, rfl, rfl, rfl, rfl,
      rfl, rfl, rfl, rfl, rfl, rfl, rfl, rfl, fun n t => ⟨fun h => (TableName.code_eq_of_ofCode h).symm, ?_⟩⟩
    rintro rfl
    exact t.ofCode_code

end Sys2Proof.Machine
end

section
/-! SUPPORT. What a step does while a command is waiting. -/

namespace Sys2Proof.Machine

/-- Settles O1: of the two branches of `step` the queue picks the second; its rest is stored before the command runs, so that what
`exec` says of a command holds from a state in which that command no longer waits. -/
theorem stepTakesFrontCommand : Obligations.StepTakesFrontCommand := by
  intro s c rest h
  rw [step, h]

end Sys2Proof.Machine
end
